-- ==== Sys2Proof/Word.lean ====
section
/-! DEFINITION. The bit-vector types of the FR/AD codec block: bytes, 16-bit samples, 32-bit register words. -/

namespace Sys2Proof

/-- R9: a byte is 8 bits. -/
abbrev Byte := BitVec 8

/-- R8: a sample is a 16-bit two's-complement integer. -/
abbrev Sample := BitVec 16

/-- R20, R21, R23: every register of the window, and every u32 field of a context, is 32 bits. -/
abbrev Word := BitVec 32

end Sys2Proof
end

