-- ==== Sys2Proof/Config.lean ====
section
/-! DEFINITION. The constants of R7 and the free values: what the spec leaves unspecified. -/

namespace Sys2Proof.Config

/-- R7, R43: the number of byte addresses, 2^32. -/
def addrSpace : Nat := 4294967296

/-- R7: frames per FR chunk. -/
def frChunk : Nat := 4

/-- R7: frames per AD chunk. -/
def adChunk : Nat := 8

/-- R7: largest FR residual magnitude, and the divisor of the step. -/
def frQmax : Nat := 127

/-- R7: largest absolute delta of a Small chunk. -/
def adSmallMax : Nat := 127

/-- R7: largest absolute delta of a Medium chunk. -/
def adMediumMax : Nat := 2047

/-- R7: largest run length. -/
def adRunMax : Nat := 64

/-- R7: the float-to-int16 multiplier. -/
def cvtScale : Nat := 32766

/-- R7, R37: frames the scratch buffer of a context holds. -/
def scratchFrames : Nat := 8

/-- R80: bytes of the preamble. -/
def preambleBytes : Nat := 10

/-- R23: bytes of the register window. -/
def windowBytes : Nat := 256

/-- The free bytes (93_implementation_defined.md §2, "any value"): byte `index` of the destination region
that the `tick`-th unspecified event leaves (R135, R152, R166, R171). DESIGN CHOICE, log 5. No body: nothing
can be proved of its value. -/
opaque freeByte (tick index : Nat) : Byte

/-- The free words of the `tick`-th unspecified event (R152, R171): the context fields it leaves, and which
outcome a read of a changed stream has. DESIGN CHOICE, log 5. -/
opaque freeWord (tick index : Nat) : Word

end Sys2Proof.Config
end

