-- ==== Sys2Proof/Machine/State.lean ====
section
/-! DEFINITION. The state of the FR/AD codec block, as plain data: the register window, the decoder contexts, the
memory it shares with the host, and the model's own fields (the platform's parameters, what the host does next, a
DEC_READ in progress, the counter of free values). With it the faults, the refusals and the state after reset. -/

namespace Sys2Proof.Machine

/-- R149: the values of STATUS.ERR. Codes 0x0B..0xFF never occur, so they have no constructor. -/
inductive ErrCode where
  | ok | illegalCmd | badCtx | ctxState | faulted | unsupported
  | region | overlap | capacity | truncated | malformed
deriving DecidableEq, Repr

/-- R30, R34: the state of a decoder context. Codes 5..15 never occur. -/
inductive CtxState where
  | closed | idle | reading | exhausted | faulted
deriving DecidableEq, Repr

/-- R89: the three AD chunk types. The reserved type 3 is the type of no chunk. -/
inductive AdType where
  | small | medium | full
deriving DecidableEq, Repr

/-- R8: one sample for each channel. A mono frame is its channel 0; its `ch1` is 0 and no rule reads it. -/
structure Frame where
  ch0 : Sample
  ch1 : Sample
deriving DecidableEq, Repr

/-- R45: the bytes at `base`, `base + 1`, …, `base + size - 1`. Sizes are mathematical integers. -/
structure Region where
  base : Nat
  size : Nat
deriving DecidableEq, Repr

/-- One clause of the platform's predicate `Admit` (R46): it admits the regions of `minLen` to `maxLen` bytes that
lie in the addresses `lo` to `hi - 1`. -/
structure AdmitRule where
  lo : Nat
  hi : Nat
  minLen : Nat
  maxLen : Nat
deriving DecidableEq, Repr

/-- R7, R62: the open parameters of the platform, as data no step changes: REG_BASE, `Admit` and COHERENT (log 4). -/
structure Platform where
  regBase : Nat
  admitRules : List AdmitRule
  coherent : Bool
deriving DecidableEq, Repr

/-- R33, R35-R37: a decoder context. `frames` is the spec's F, `total` its T, `rate` sampleRate, `stereo` is C - 1
(log 9). `stale` is the model's own: the host has changed a byte of the open stream region (R171, log 7). -/
structure Ctx where
  st : CtxState
  base : Word
  len : Word
  frames : Word
  rate : Word
  stereo : Bool
  lossy : Bool
  total : Word
  remaining : Word
  pos : Word
  cursor : Word
  unit : Word
  key : Frame
  n : Word
  acc : Frame
  runType : AdType
  runLeft : Nat
  ovf : List Frame
  ovfLen : Nat
  ovfOff : Nat
  stale : Bool
deriving DecidableEq, Repr

/-- A DEC_READ in progress (the model's own, log 3): the context, the destination address, the frames k it
delivers and the frames written so far (w in R134). -/
structure ReadJob where
  ctx : Nat
  dst : Nat
  k : Nat
  written : Nat
deriving DecidableEq, Repr

/-- R176: what the host and the platform can do to the block, with the platform's reset (R163, R166), a command that
another bus master disturbs (R52, R174), and one without cache maintenance (R62). Window offsets are relative to
REG_BASE. -/
inductive HostAction where
  /-- A read of `width` bytes at a window offset. -/
  | regRead (width : Nat) (offset : Byte)
  /-- A write of `width` bytes at a window offset. -/
  | regWrite (width : Nat) (offset : Byte) (value : Word)
  /-- An ordinary read of one byte of memory. -/
  | memRead (addr : Word)
  /-- An ordinary write of one byte of memory. -/
  | memWrite (addr : Word) (value : Byte)
  /-- R163: the platform resets the block between commands. -/
  | reset
  /-- R166: the host writes `word` to CMD and the platform resets the block while that command runs. -/
  | resetDuring (word : Word)
  /-- R52, R174: the host writes `word` to CMD, and another bus master writes the `count` bytes from `addr` on while that
  command runs. -/
  | busWriteDuring (word addr count : Word)
  /-- R62: the host writes `word` to CMD and leaves out the cache maintenance of the `count` bytes from `addr` on. -/
  | skipMaintenance (word addr count : Word)
deriving DecidableEq, Repr

/-- Why the machine stops. The block itself never stops: its errors are status codes (R148), each a next state. -/
inductive Fault where
  /-- Raised by DEC_READ, DEC_RESET and the run headers when the stream region of an open context reaches past address
  2^32 - 1 or lacks its leading key, so that a stream address would not exist (R43, R45). DEC_OPEN never opens
  such a region (R131), so no run from reset meets it. Safe. -/
  | noSuchAddress
deriving DecidableEq, Repr

/-- Why the model has no transition. -/
inductive Refusal where
  /-- Raised by an arm of `exec` for an instruction without a meaning; no arm answers it now. Safe. -/
  | notModelled (mnemonic : String)
  /-- Raised by a host access to the window of another width than 32 bits or at an offset that is no multiple of 4:
  "A model refuses it" (R32). Safe. -/
  | windowAccess
  /-- Raised by a run header when no DEC_READ in progress waits for one: the bytes a decoder parses are data, not
  commands (R18), and a header has no effect elsewhere. Raised too when a read in progress names no context.
  Neither occurs in a run from reset. Safe. -/
  | notInRead
deriving DecidableEq, Repr

/-- R19: the state of the block (the register window and the contexts, NUM_CTX = `ctxs.length`), the memory (R44),
and the model's own fields, from `platform` on. ID, STATUS and CTX_STATE are views (Machine/Flags.lean). -/
structure State where
  /-- R25: the last command word written. -/
  cmd : Word
  /-- R26: STATUS.ERR. -/
  err : ErrCode
  arg0 : Word
  arg1 : Word
  arg2 : Word
  arg3 : Word
  res0 : Word
  res1 : Word
  res2 : Word
  res3 : Word
  diagSmall : Word
  diagMedium : Word
  diagFull : Word
  diagRuns : Word
  diagSat : Word
  /-- R33: the contexts 0, 1, …, NUM_CTX - 1. -/
  ctxs : List Ctx
  /-- R43, R44: the bytes of memory that are not 0, by address. -/
  mem : List Host.Cell
  platform : Platform
  /-- What the host does next, the next action first (log 2). -/
  inbox : List HostAction
  /-- What the host's last read returned (log 2). -/
  hostData : Word
  /-- The DEC_READ in progress; none between commands (log 3). -/
  reading : Option ReadJob
  /-- How many unspecified events have drawn free values (log 5). -/
  freeTick : Nat
deriving DecidableEq, Repr

/-- A frame of zeros. -/
def Frame.zero : Frame := ⟨0, 0⟩

/-- R41, R140: a context with `st = CLOSED` and every other field 0, scratch included. -/
def Ctx.closed : Ctx :=
  { st := .closed, base := 0, len := 0, frames := 0, rate := 0, stereo := false, lossy := false, total := 0,
    remaining := 0, pos := 0, cursor := 0, unit := 0, key := Frame.zero, n := 0, acc := Frame.zero,
    runType := .small, runLeft := 0, ovf := List.replicate Config.scratchFrames Frame.zero, ovfLen := 0,
    ovfOff := 0, stale := false }

/-- DESIGN CHOICE, log 4: a coherent platform that admits every region of memory and places the window at bus address
2^32, above all memory. -/
def Platform.default : Platform :=
  { regBase := Config.addrSpace, admitRules := [⟨0, Config.addrSpace, 0, Config.addrSpace⟩], coherent := true }

/-- R23, R41, R163: the block after reset, with the spec's default NUM_CTX = 1 (R7), and memory with nothing listed.
No host action is pending (log 2). -/
def State.reset : State :=
  { cmd := 0, err := .ok, arg0 := 0, arg1 := 0, arg2 := 0, arg3 := 0, res0 := 0, res1 := 0, res2 := 0, res3 := 0,
    diagSmall := 0, diagMedium := 0, diagFull := 0, diagRuns := 0, diagSat := 0, ctxs := [Ctx.closed], mem := [],
    platform := Platform.default, inbox := [], hostData := 0, reading := none, freeTick := 0 }

end Sys2Proof.Machine
end

