-- ==== Sys2Proof/Machine/Operands.lean ====
section
/-! DEFINITION. Operands and data formats: channel counts, two's-complement numbers, little-endian bytes, PCM frames. -/

namespace Sys2Proof.Machine

/-- R67: C = 1 + ST. -/
def channels (stereo : Bool) : Nat := if stereo then 2 else 1

/-- R10: `ceil_div(a, b)`. -/
def ceilDiv (a b : Nat) : Nat := (a + b - 1) / b

/-- R10: `wrap16`, and the conversion of an s16 value to its sample. -/
def wrap16 (v : Int) : Sample := BitVec.ofInt 16 v

/-- R10, R91: `sext_12` of the low 12 bits. -/
def sext12 (v : Nat) : Int := (BitVec.ofNat 12 v).toInt

/-- R48: the low `n` bytes of `v`, least significant byte first. -/
def leBytes (n v : Nat) : List Byte := (List.range n).map fun i => BitVec.ofNat 8 (v / 256 ^ i)

/-- R12, R48: the unsigned little-endian integer of a byte list. -/
def leNat : List Byte → Nat
  | [] => 0
  | b :: bs => b.toNat + 256 * leNat bs

/-- R77: a sample as 2 bytes. -/
def sampleBytes (x : Sample) : List Byte := leBytes 2 x.toNat

/-- R8: the sample of channel `ch` of a frame. -/
def Frame.get (f : Frame) (ch : Nat) : Sample := if ch = 0 then f.ch0 else f.ch1

/-- R8: the frame whose samples are given by channel. A mono frame has nothing in channel 1. -/
def Frame.build (stereo : Bool) (x : Nat → Sample) : Frame := ⟨x 0, if stereo then x 1 else 0⟩

/-- R8, R77: the samples of a frame, channel 0 first. -/
def Frame.samples (stereo : Bool) (f : Frame) : List Sample := (List.range (channels stereo)).map f.get

/-- R77: a frame in a PCM buffer; R81: a key frame in an FR body. -/
def frameBytes (stereo : Bool) (f : Frame) : List Byte := (f.samples stereo).flatMap sampleBytes

/-- R77: frames in PCM layout. -/
def pcmBytes (stereo : Bool) (fs : List Frame) : List Byte := fs.flatMap (frameBytes stereo)

/-- R89: the code of an AD chunk type. -/
def AdType.code : AdType → Nat
  | .small => 0
  | .medium => 1
  | .full => 2

/-- R89: the chunk type of a code; 3 is reserved. -/
def AdType.ofCode : Nat → Option AdType
  | 0 => some .small
  | 1 => some .medium
  | 2 => some .full
  | _ => none

/-- R89: payload bytes per channel of a chunk. -/
def AdType.width : AdType → Nat
  | .small => 8
  | .medium => 12
  | .full => 16

end Sys2Proof.Machine
end

