-- ==== Sys2Proof/Machine/Flags.lean ====
section
/-! DEFINITION. The status views of the register window: STATUS, CTX_STATE and ID. The block has no arithmetic flags
(R39): STATUS.ERR is its only status indication. -/

namespace Sys2Proof.Machine

/-- R149: the code of an outcome. -/
def ErrCode.code : ErrCode → Nat
  | .ok => 0x00
  | .illegalCmd => 0x01
  | .badCtx => 0x02
  | .ctxState => 0x03
  | .faulted => 0x04
  | .unsupported => 0x05
  | .region => 0x06
  | .overlap => 0x07
  | .capacity => 0x08
  | .truncated => 0x09
  | .malformed => 0x0A

/-- R30: the code of a context state. -/
def CtxState.code : CtxState → Nat
  | .closed => 0
  | .idle => 1
  | .reading => 2
  | .exhausted => 3
  | .faulted => 4

/-- R33: the number of contexts of the block. -/
def State.numCtx (s : State) : Nat := s.ctxs.length

/-- R26: STATUS, with bits 31:8 reading 0. -/
def State.statusWord (s : State) : Word := BitVec.ofNat 32 s.err.code

/-- R30: the nibbles of the contexts, context 0 in the low bits. -/
def ctxNibbles : List Ctx → Nat
  | [] => 0
  | cx :: rest => cx.st.code + 16 * ctxNibbles rest

/-- R30: CTX_STATE. -/
def State.ctxStateWord (s : State) : Word := BitVec.ofNat 32 (ctxNibbles s.ctxs)

/-- R23, R24: ID is hardwired. -/
def State.idWord (s : State) : Word := BitVec.ofNat 32 (0x46410001 + s.numCtx * 0x100)

end Sys2Proof.Machine
end

