-- ==== Sys2Proof/Machine/Ops.lean ====
section
/-! DEFINITION. The shared operations: bytes of memory, regions and their checks, the registers a command writes, and
the end of a command with an error (the block's only form of exception, R148). -/

namespace Sys2Proof.Machine

/-! ### Memory -/

/-- What an address that no cell lists reads as. DESIGN CHOICE, log 1: memory is the host's, and 95_test_vectors.md
takes memory that is not given as 0. -/
def unlistedByte : Byte := 0

/-- The byte at an address. -/
def readByte : List Host.Cell → Nat → Byte
  | [], _ => unlistedByte
  | (k, v) :: rest, a => if k = a then v else readByte rest a

/-- A cell put in its place in a list that does not list its address. -/
def insertCell (a : Nat) (v : Byte) : List Host.Cell → List Host.Cell
  | [] => [(a, v)]
  | (k, w) :: rest => if a < k then (a, v) :: (k, w) :: rest else (k, w) :: insertCell a v rest

/-- The memory with the byte `v` at the address `a`; the value an unlisted address reads as leaves no cell. -/
def writeByte (m : List Host.Cell) (a : Nat) (v : Byte) : List Host.Cell :=
  let others := m.filter fun c => c.1 != a
  if v = unlistedByte then others else insertCell a v others

/-- The canonical form: addresses strictly rising, and no cell that an unlisted address reads as. -/
def memWf : List Host.Cell → Bool
  | [] => true
  | (k, v) :: rest => v != unlistedByte && rest.all (fun c => decide (k < c.1)) && memWf rest

/-- Every listed address exists (R43). -/
def memInSpace (m : List Host.Cell) : Bool := m.all fun c => decide (c.1 < Config.addrSpace)

/-- R12: `MemReadBytes`. -/
def readBytes (m : List Host.Cell) (a n : Nat) : List Byte := (List.range n).map fun i => readByte m (a + i)

/-- R12: `MemRead`, little-endian (R48). -/
def readNat (m : List Host.Cell) (a n : Nat) : Nat := leNat (readBytes m a n)

/-- R12, R53: `MemWriteBytes`, from the lowest address to the highest. -/
def writeBytes : List Host.Cell → Nat → List Byte → List Host.Cell
  | m, _, [] => m
  | m, a, b :: bs => writeBytes (writeByte m a b) (a + 1) bs

/-- R77: the s16 at an address. No access needs alignment (R50). -/
def readSample (m : List Host.Cell) (a : Nat) : Sample := BitVec.ofNat 16 (readNat m a 2)

/-- R77, R81: the frame at an address, channel 0 first. -/
def readFrame (m : List Host.Cell) (stereo : Bool) (a : Nat) : Frame :=
  Frame.build stereo fun ch => readSample m (a + 2 * ch)

/-! ### Regions -/

/-- R47: two regions overlap. -/
def Region.overlaps (r q : Region) : Bool :=
  decide (0 < r.size) && decide (0 < q.size) && decide (r.base < q.base + q.size) && decide (q.base < r.base + r.size)

/-- An admission clause holds of a region (log 4). -/
def AdmitRule.covers (c : AdmitRule) (r : Region) : Bool :=
  decide (c.lo ≤ r.base) && decide (r.base + r.size ≤ c.hi) && decide (c.minLen ≤ r.size) && decide (r.size ≤ c.maxLen)

/-- R46: `Admit(a, n)`, false for any region that touches the register window. -/
def Platform.admits (p : Platform) (r : Region) : Bool :=
  p.admitRules.any (fun c => c.covers r) && !(r.overlaps ⟨p.regBase, Config.windowBytes⟩)

/-- R45: a valid region. -/
def State.valid (s : State) (r : Region) : Bool :=
  decide (r.size = 0) || (decide (r.base + r.size ≤ Config.addrSpace) && s.platform.admits r)

/-- R16, R126: the stream region of a context. -/
def Ctx.region (cx : Ctx) : Region := ⟨cx.base.toNat, cx.len.toNat⟩

/-- R54 (c): a region overlaps the stream region of a context that is not CLOSED. -/
def State.overlapsOpen (s : State) (r : Region) : Bool :=
  s.ctxs.any fun cx => decide (cx.st ≠ .closed) && r.overlaps cx.region

/-! ### Registers, contexts and memory of the state -/

/-- R13, R151, R152: the end of a command with an error found before any write. Nothing but STATUS.ERR changes. -/
def State.raise (s : State) (e : ErrCode) : State := { s with err := e }

/-- R13: the end of a command that raised nothing. -/
def State.finish (s : State) : State := { s with err := .ok }

/-- R11: `RES[0] <- v`. -/
def State.setRes0 (s : State) (v : Nat) : State := { s with res0 := BitVec.ofNat 32 v }

/-- R11: `RES[1] <- v`. -/
def State.setRes1 (s : State) (v : Nat) : State := { s with res1 := BitVec.ofNat 32 v }

/-- R11: `RES[2] <- v`. -/
def State.setRes2 (s : State) (v : Nat) : State := { s with res2 := BitVec.ofNat 32 v }

/-- R11: `RES[3] <- v`. -/
def State.setRes3 (s : State) (v : Nat) : State := { s with res3 := BitVec.ofNat 32 v }

/-- R159: the five diagnostic counters, replaced together. -/
def State.setDiag (s : State) (small medium full runs sat : Nat) : State :=
  { s with diagSmall := BitVec.ofNat 32 small, diagMedium := BitVec.ofNat 32 medium,
           diagFull := BitVec.ofNat 32 full, diagRuns := BitVec.ofNat 32 runs, diagSat := BitVec.ofNat 32 sat }

/-- R11: a write of decoder context `c`. -/
def State.setCtx (s : State) (c : Nat) (cx : Ctx) : State := { s with ctxs := s.ctxs.set c cx }

/-- R12: `MemWriteBytes` on the state's memory. -/
def State.store (s : State) (a : Nat) (bs : List Byte) : State := { s with mem := writeBytes s.mem a bs }

/-- The model's own: the DEC_READ in progress (log 3). -/
def State.setReading (s : State) (job : Option ReadJob) : State := { s with reading := job }

/-! ### Free values -/

/-- The free bytes of an unspecified event over a region (93_implementation_defined.md §2; log 5). -/
def freeBytes (tick n : Nat) : List Byte := (List.range n).map (Config.freeByte tick)

/-- R135, R152, R166, R171: the bytes of a region take unspecified values; every other byte keeps its own. -/
def State.scramble (s : State) (r : Region) : State :=
  { s with mem := writeBytes s.mem r.base (freeBytes s.freeTick r.size), freeTick := s.freeTick + 1 }

/-- A free sample: word `index` of the event `tick`. -/
def freeSample (tick index : Nat) : Sample := (Config.freeWord tick index).setWidth 16

/-- A free frame: words `index` and `index + 1` of the event `tick`. -/
def freeFrame (tick index : Nat) : Frame := ⟨freeSample tick index, freeSample tick (index + 1)⟩

/-- R135, R152, R171: a context whose decoding position is unspecified. The fields that DEC_RESET rewrites take free
values; base, len, F, rate, C, lossy, n and T keep theirs, because DEC_RESET keeps them (R138; log 6). -/
def Ctx.scramble (cx : Ctx) (tick : Nat) : Ctx :=
  { cx with
    remaining := Config.freeWord tick 0, pos := Config.freeWord tick 1, cursor := Config.freeWord tick 2,
    unit := Config.freeWord tick 3, key := freeFrame tick 4, acc := freeFrame tick 6,
    runType := (AdType.ofCode ((Config.freeWord tick 8).toNat % 4)).getD .full,
    runLeft := (Config.freeWord tick 9).toNat % 65,
    ovf := (List.range Config.scratchFrames).map fun i => freeFrame tick (10 + 2 * i),
    ovfLen := (Config.freeWord tick 26).toNat % 9, ovfOff := (Config.freeWord tick 27).toNat % 9 }

end Sys2Proof.Machine
end

