-- ==== Sys2Proof/Machine/Container.lean ====
section
/-! DEFINITION. NOP (R143) and HDR_WRITE (R142). -/

namespace Sys2Proof.Machine

/-- R143: NOP changes STATUS.ERR and nothing else. -/
def execNop (s : State) : Host.Outcome State Fault Refusal := .next s.finish

/-- R80, R82: the 10 bytes of a preamble: frameCount, sampleRate, the stereo byte and the lossy byte. -/
def preambleOf (frames rate : Word) (stereo lossy : Bool) : List Byte :=
  leBytes 4 frames.toNat ++ leBytes 4 rate.toNat ++ leBytes 1 stereo.toNat ++ leBytes 1 lossy.toNat

/-- R142: the destination region of HDR_WRITE. -/
def hdrRegion (s : State) : Region := ⟨s.arg0.toNat, Config.preambleBytes⟩

/-- R142: the checks of HDR_WRITE, in order. -/
def hdrCheck (s : State) : Except ErrCode Unit :=
  if !s.valid (hdrRegion s) then .error .region
  else if s.overlapsOpen (hdrRegion s) then .error .overlap
  else .ok ()

/-- R142: HDR_WRITE. -/
def execHdrWrite (stereo lossy : Bool) (s : State) : Host.Outcome State Fault Refusal :=
  match hdrCheck s with
  | .error e => .next (s.raise e)
  | .ok () =>
    .next ((s.store s.arg0.toNat (preambleOf s.arg1 s.arg2 stereo lossy)).setRes0 Config.preambleBytes).finish

end Sys2Proof.Machine
end

