-- ==== Sys2Proof/Machine/Convert.lean ====
section
/-! DEFINITION. CVT_F32 (R108-R110): float to int16 preprocessing. -/

namespace Sys2Proof.Machine

/-- R78: the sign bit of a binary32. -/
def f32Sign (u : Word) : Nat := u.toNat / 2 ^ 31

/-- R78: the biased exponent of a binary32, bits 30:23. -/
def f32Exp (u : Word) : Nat := u.toNat / 2 ^ 23 % 2 ^ 8

/-- R78: the fraction of a binary32, bits 22:0. -/
def f32Frac (u : Word) : Nat := u.toNat % 2 ^ 23

/-- The integer significand of a finite binary32: |value| = `f32Sig u * 2 ^ f32Scale u / 2 ^ 150`. -/
def f32Sig (u : Word) : Nat := if f32Exp u = 0 then f32Frac u else f32Frac u + 2 ^ 23

/-- The power of two of a finite binary32's significand, plus 150; a subnormal has that of exponent 1. -/
def f32Scale (u : Word) : Nat := max (f32Exp u) 1

/-- R108: `n / 2 ^ k` rounded to the nearest integer, ties to even. -/
def roundNearestEven (n k : Nat) : Nat :=
  let q := n / 2 ^ k
  let r := n % 2 ^ k
  if 2 ^ k < 2 * r ∨ (2 * r = 2 ^ k ∧ q % 2 = 1) then q + 1 else q

/-- The bits by which an integer exceeds the 24-bit significand of a binary32. -/
def excessBits (n : Nat) : Nat := Nat.log2 n + 1 - 24

/-- R108: the magnitude of `round_binary32_RNE(value(u) × 32766)` for a finite `u`, times 2^150. -/
def cvtProduct (u : Word) : Nat :=
  let p := f32Sig u * Config.cvtScale
  roundNearestEven p (excessBits p) * 2 ^ (excessBits p + f32Scale u)

/-- R108: a rounded magnitude of 2^128 or more is an infinity. The argument is the magnitude times 2^150. -/
def f32Overflows (product : Nat) : Bool := decide (2 ^ 128 * 2 ^ 150 ≤ product)

/-- R108: the result of an infinite product. -/
def cvtInfinite (u : Word) : Int := if f32Sign u = 1 then -32768 else 32767

/-- R108: the result of a finite product: truncated toward zero, then saturated. -/
def cvtFinite (u : Word) : Int :=
  let t : Int := ((cvtProduct u / 2 ^ 150 : Nat) : Int)
  min (max (if f32Sign u = 1 then -t else t) (-32768)) 32767

/-- R108: `F32ToI16` as an integer. -/
def f32ToInt (u : Word) : Int :=
  if f32Exp u = 255 then
    if f32Frac u ≠ 0 then 0 else cvtInfinite u
  else if f32Overflows (cvtProduct u) then cvtInfinite u
  else cvtFinite u

/-- R108: `F32ToI16`. -/
def f32ToI16 (u : Word) : Sample := wrap16 (f32ToInt u)

/-- R78: value `i` of a float buffer. -/
def readF32 (m : List Host.Cell) (src i : Nat) : Word := BitVec.ofNat 32 (readNat m (src + 4 * i) 4)

/-- R110: the bytes CVT_F32 writes, low to high index. -/
def cvtBytes (m : List Host.Cell) (src count : Nat) : List Byte :=
  (List.range count).flatMap fun i => sampleBytes (f32ToI16 (readF32 m src i))

/-- R110: the source region. -/
def cvtSource (s : State) : Region := ⟨s.arg0.toNat, 4 * s.arg2.toNat⟩

/-- R110: the destination region. -/
def cvtDest (s : State) : Region := ⟨s.arg1.toNat, 2 * s.arg2.toNat⟩

/-- R110: the checks of CVT_F32, in order. -/
def cvtCheck (s : State) : Except ErrCode Unit :=
  if !s.valid (cvtSource s) then .error .region
  else if !s.valid (cvtDest s) then .error .region
  else if s.arg1 ≠ s.arg0 ∧ (cvtSource s).overlaps (cvtDest s) = true then .error .overlap
  else if s.overlapsOpen (cvtDest s) then .error .overlap
  else .ok ()

/-- R110: CVT_F32. Every source byte is read from the memory before the write (R53). -/
def execCvtF32 (s : State) : Host.Outcome State Fault Refusal :=
  match cvtCheck s with
  | .error e => .next (s.raise e)
  | .ok () =>
    .next ((s.store s.arg1.toNat (cvtBytes s.mem s.arg0.toNat s.arg2.toNat)).setRes0 s.arg2.toNat).finish

end Sys2Proof.Machine
end

