-- ==== Sys2Proof/Syntax.lean ====
section
/-! DEFINITION. The instructions: one constructor for each row of spec/opcode_table.json. -/

namespace Sys2Proof

/-- R18, R68 (nine commands, format CMD32) and R92 (four AD run-header types, format AD_RUN_HEADER).
A command's other operands are not part of its word: they come from ARG0..ARG3 (R67, R73). -/
inductive Instr where
  /-- R143, word 0x0000_0000. -/
  | nop
  /-- R110: float to int16 conversion. -/
  | cvtF32
  /-- R142: write a preamble. `stereo` is ST (bit 12), `lossy` is LS (bit 13). -/
  | hdrWrite (stereo lossy : Bool)
  /-- R104: Fractional-Residual encode. `stereo` is ST. -/
  | encFr (stereo : Bool)
  /-- R119: Adaptive-Delta encode. `stereo` is ST. -/
  | encAd (stereo : Bool)
  /-- R131: open a stream on context `ctx` (CTX, bits 11:8). -/
  | decOpen (ctx : Nat)
  /-- R134: deliver frames of context `ctx`. -/
  | decRead (ctx : Nat)
  /-- R138: return context `ctx` to the start of its stream. -/
  | decReset (ctx : Nat)
  /-- R140: close context `ctx`. -/
  | decClose (ctx : Nat)
  /-- R92, R122: run header of type 0; `extra` is the run length minus 1 (R88). -/
  | adSmall (extra : Nat)
  /-- R92, R122: run header of type 1. -/
  | adMedium (extra : Nat)
  /-- R92, R122: run header of type 2. -/
  | adFull (extra : Nat)
  /-- R92, R122: run header of the reserved type 3. -/
  | adReserved (extra : Nat)
deriving DecidableEq, Repr

end Sys2Proof
end

