-- ==== Sys2Proof/WellFormed.lean ====
section
/-! DEFINITION. Which instruction terms an encoding can spell. -/

namespace Sys2Proof

/-- R66: CTX is a 4-bit field. Whether the context exists (BAD_CTX) is a check on the value, not on the
encoding (R69), and stands in the meanings. -/
def ctxFits (ctx : Nat) : Bool := decide (ctx < 16)

/-- R88: the run length minus 1 is a 6-bit field. -/
def extraFits (extra : Nat) : Bool := decide (extra < 64)

/-- An instruction whose operands fit the fields of its encoding. -/
def Instr.wf : Instr → Bool
  | .nop => true
  | .cvtF32 => true
  | .hdrWrite _ _ => true
  | .encFr _ => true
  | .encAd _ => true
  | .decOpen ctx => ctxFits ctx
  | .decRead ctx => ctxFits ctx
  | .decReset ctx => ctxFits ctx
  | .decClose ctx => ctxFits ctx
  | .adSmall extra => extraFits extra
  | .adMedium extra => extraFits extra
  | .adFull extra => extraFits extra
  | .adReserved extra => extraFits extra

end Sys2Proof
end

