-- ==== Sys2Proof/Decode.lean ====
section
/-! DEFINITION. The decoder of command words (R66-R71) and of AD run headers (R88, R92), the encoder, and
the host's `decodeTableWord`. -/

namespace Sys2Proof

/-- Why a command word is illegal (R69, R70): the checks in the order the block makes them. Every one of them
raises ILLEGAL_CMD. -/
inductive DecodeError where
  /-- The OP field is none of the nine opcodes. -/
  | reservedOp
  /-- Bits 31:14 are not 0. -/
  | reservedBits
  /-- CTX is not 0 and OP is no DEC_* opcode. -/
  | ctxField
  /-- ST is set and OP is none of HDR_WRITE, ENC_FR and ENC_AD. -/
  | stField
  /-- LS is set and OP is not HDR_WRITE. -/
  | lsField
deriving DecidableEq, Repr

/-- R9: `v[lo + width - 1 : lo]` as an unsigned integer. -/
def bitField (v lo width : Nat) : Nat := v / 2 ^ lo % 2 ^ width

/-- R66: OP, bits 7:0. -/
def opField (w : Word) : Nat := bitField w.toNat 0 8

/-- R66: CTX, bits 11:8. -/
def ctxField (w : Word) : Nat := bitField w.toNat 8 4

/-- R66: ST, bit 12. -/
def stField (w : Word) : Nat := bitField w.toNat 12 1

/-- R66: LS, bit 13. -/
def lsField (w : Word) : Nat := bitField w.toNat 13 1

/-- R66: the reserved bits 31:14. -/
def reservedField (w : Word) : Nat := bitField w.toNat 14 18

/-- R68: the nine opcodes. -/
def opcodes : List Nat := [0x00, 0x01, 0x02, 0x10, 0x11, 0x20, 0x21, 0x22, 0x23]

/-- R69: the opcodes that use CTX. -/
def ctxOpcodes : List Nat := [0x20, 0x21, 0x22, 0x23]

/-- R69: the opcodes that use ST. -/
def stOpcodes : List Nat := [0x02, 0x10, 0x11]

/-- R69: the opcodes that use LS. -/
def lsOpcodes : List Nat := [0x02]

/-- R68: the instruction of an opcode and its fields, once R69's field checks have passed. -/
def instrOfOpcode (op ctx st ls : Nat) : Except DecodeError Instr :=
  match op with
  | 0x00 => .ok .nop
  | 0x01 => .ok .cvtF32
  | 0x02 => .ok (.hdrWrite (st == 1) (ls == 1))
  | 0x10 => .ok (.encFr (st == 1))
  | 0x11 => .ok (.encAd (st == 1))
  | 0x20 => .ok (.decOpen ctx)
  | 0x21 => .ok (.decRead ctx)
  | 0x22 => .ok (.decReset ctx)
  | 0x23 => .ok (.decClose ctx)
  | _ => .error .reservedOp

/-- R69: command decode, less the BAD_CTX check, which is one on a value and stands in the DEC_* meanings. -/
def decodeWord (w : Word) : Except DecodeError Instr :=
  if opField w ∉ opcodes then .error .reservedOp
  else if reservedField w ≠ 0 then .error .reservedBits
  else if ctxField w ≠ 0 ∧ opField w ∉ ctxOpcodes then .error .ctxField
  else if stField w ≠ 0 ∧ opField w ∉ stOpcodes then .error .stField
  else if lsField w ≠ 0 ∧ opField w ∉ lsOpcodes then .error .lsField
  else instrOfOpcode (opField w) (ctxField w) (stField w) (lsField w)

/-- R88: the type field of a run header, bits 7:6. -/
def headerTypeField (h : Byte) : Nat := bitField h.toNat 6 2

/-- R88: the field `extra` of a run header, bits 5:0: the run length minus 1. -/
def headerExtraField (h : Byte) : Nat := bitField h.toNat 0 6

/-- R92: a run header read as an instruction. Every byte is one. -/
def decodeRunHeader (h : Byte) : Instr :=
  match headerTypeField h with
  | 0 => .adSmall (headerExtraField h)
  | 1 => .adMedium (headerExtraField h)
  | 2 => .adFull (headerExtraField h)
  | _ => .adReserved (headerExtraField h)

/-- The decoder on a value of `nbits` bits: a command word or a run header. No other length exists (R65,
R71, R88). -/
def decodeBits (nbits w : Nat) : Option Instr :=
  match nbits with
  | 32 => (decodeWord (BitVec.ofNat 32 w)).toOption
  | 8 => some (decodeRunHeader (BitVec.ofNat 8 w))
  | _ => none

/-- The host's question: the instruction read from the bits `w` of a table row of `nbits` bits. A command word
is one register value, and a run header is one byte, so no bits follow. -/
def decodeTableWord (nbits w : Nat) : Option Instr :=
  if w < 2 ^ nbits then decodeBits nbits w else none

/-- R66: a command word from its fields. -/
def commandWord (op ctx : Nat) (st ls : Bool) : Word :=
  BitVec.ofNat 32 (op + 256 * ctx + 4096 * st.toNat + 8192 * ls.toNat)

/-- R88: a run header from its type code and the field `extra`. -/
def runHeaderByte (type extra : Nat) : Byte := BitVec.ofNat 8 (64 * type + extra)

/-- An instruction's bits: how many, and their value. -/
structure Encoding where
  nbits : Nat
  bits : Nat
deriving DecidableEq, Repr

/-- The encoder, written from R68 and R92. -/
def encode : Instr → Encoding
  | .nop => ⟨32, (commandWord 0x00 0 false false).toNat⟩
  | .cvtF32 => ⟨32, (commandWord 0x01 0 false false).toNat⟩
  | .hdrWrite stereo lossy => ⟨32, (commandWord 0x02 0 stereo lossy).toNat⟩
  | .encFr stereo => ⟨32, (commandWord 0x10 0 stereo false).toNat⟩
  | .encAd stereo => ⟨32, (commandWord 0x11 0 stereo false).toNat⟩
  | .decOpen ctx => ⟨32, (commandWord 0x20 ctx false false).toNat⟩
  | .decRead ctx => ⟨32, (commandWord 0x21 ctx false false).toNat⟩
  | .decReset ctx => ⟨32, (commandWord 0x22 ctx false false).toNat⟩
  | .decClose ctx => ⟨32, (commandWord 0x23 ctx false false).toNat⟩
  | .adSmall extra => ⟨8, (runHeaderByte 0 extra).toNat⟩
  | .adMedium extra => ⟨8, (runHeaderByte 1 extra).toNat⟩
  | .adFull extra => ⟨8, (runHeaderByte 2 extra).toNat⟩
  | .adReserved extra => ⟨8, (runHeaderByte 3 extra).toNat⟩

end Sys2Proof
end

