-- ==== Sys2Proof/Machine/Fractional.lean ====
section
/-! DEFINITION. The Fractional-Residual codec: its arithmetic (R94-R97), ENC_FR (R104) and the decoding of one unit
(R106). -/

namespace Sys2Proof.Machine

/-- R94: `step`. -/
def frStep (l r : Int) : Nat := max ((r - l).natAbs / Config.frQmax) 1

/-- R94: `mid`, truncated toward zero. -/
def frMid (l r : Int) : Int := Int.tdiv (l + r) 2

/-- R95: the residual byte of an interior sample: the sign in bit 7, the clamped magnitude below it (R87). -/
def frQuant (x l r : Int) : Byte :=
  let res := x - frMid l r
  BitVec.ofNat 8 ((if res < 0 then 128 else 0) + min (res.natAbs / frStep l r) Config.frQmax)

/-- R87: the value of a residual byte, sign-magnitude. -/
def residualValue (b : Byte) : Int :=
  if 128 ≤ b.toNat then -((b.toNat % 128 : Nat) : Int) else ((b.toNat % 128 : Nat) : Int)

/-- R96: the reconstruction of an interior sample. -/
def frRecon (b : Byte) (l r : Int) : Sample := wrap16 (frMid l r + frStep l r * residualValue b)

/-- R86: the number of FR chunks of F frames. -/
def frChunks (frames : Nat) : Nat := ceilDiv (frames - 1) Config.frChunk

/-- R86: the bytes of an FR body of `n` chunks. -/
def frBodySize (c n : Nat) : Nat := 5 * c * n + 2 * c

/-- R101: the padded source: frame `min(f, F - 1)` of the PCM buffer at `src` (R77). -/
def frSource (m : List Host.Cell) (stereo : Bool) (src frames : Nat) (f : Nat) : Frame :=
  readFrame m stereo (src + 2 * channels stereo * min f (frames - 1))

/-- R84, R104: the residual bytes of one interior frame, by channel. -/
def frResiduals (stereo : Bool) (x l r : Frame) : List Byte :=
  (List.range (channels stereo)).map fun ch => frQuant (x.get ch).toInt (l.get ch).toInt (r.get ch).toInt

/-- R81, R104: the bytes of chunk `c`: its left key, then the residuals of its three interior frames. -/
def frChunkBytes (stereo : Bool) (x : Nat → Frame) (c : Nat) : List Byte :=
  frameBytes stereo (x (4 * c)) ++
    [1, 2, 3].flatMap fun j => frResiduals stereo (x (4 * c + j)) (x (4 * c)) (x (4 * c + 4))

/-- R81, R103: an FR body of `n` chunks: the chunks in order, then the trailing key. -/
def frBody (stereo : Bool) (n : Nat) (x : Nat → Frame) : List Byte :=
  (List.range n).flatMap (frChunkBytes stereo x) ++ frameBytes stereo (x (4 * n))

/-- R104: the source region of an encoder. -/
def encSource (stereo : Bool) (s : State) : Region := ⟨s.arg0.toNat, 2 * channels stereo * s.arg2.toNat⟩

/-- R104: B, the bytes of the body. -/
def encFrSize (stereo : Bool) (s : State) : Nat := frBodySize (channels stereo) (frChunks s.arg2.toNat)

/-- R104: the destination region of ENC_FR. -/
def encFrDest (stereo : Bool) (s : State) : Region := ⟨s.arg1.toNat, encFrSize stereo s⟩

/-- R104: the checks of ENC_FR, in order. -/
def encFrCheck (stereo : Bool) (s : State) : Except ErrCode Unit :=
  if s.arg2 = 0 then .error .unsupported
  else if !s.valid (encSource stereo s) then .error .region
  else if s.arg3.toNat < encFrSize stereo s then .error .capacity
  else if !s.valid (encFrDest stereo s) then .error .region
  else if s.arg1 ≠ s.arg0 ∧ (encSource stereo s).overlaps (encFrDest stereo s) = true then .error .overlap
  else if s.overlapsOpen (encFrDest stereo s) then .error .overlap
  else .ok ()

/-- R104: the body ENC_FR writes, from the memory before the write (R53). -/
def encFrBody (stereo : Bool) (s : State) : List Byte :=
  frBody stereo (frChunks s.arg2.toNat) (frSource s.mem stereo s.arg0.toNat s.arg2.toNat)

/-- R104: ENC_FR. -/
def execEncFr (stereo : Bool) (s : State) : Host.Outcome State Fault Refusal :=
  match encFrCheck stereo s with
  | .error e => .next (s.raise e)
  | .ok () =>
    .next (((s.store s.arg1.toNat (encFrBody stereo s)).setRes0 (encFrSize stereo s)).setRes1
      (frChunks s.arg2.toNat)).finish

/-- R106: interior frame `j` of the FR chunk whose residuals start at `a`, between the keys `l` and `r`. -/
def frInterior (m : List Host.Cell) (stereo : Bool) (a : Nat) (l r : Frame) (j : Nat) : Frame :=
  Frame.build stereo fun ch =>
    frRecon (readByte m (a + channels stereo * (j - 1) + ch)) (l.get ch).toInt (r.get ch).toInt

/-- R105, R106: the decoding of the FR unit at the context's position: the trailing key, or a chunk of 4 frames. -/
def frDecodeUnit (m : List Host.Cell) (cx : Ctx) : Except ErrCode (List Frame × Ctx) :=
  let c := channels cx.stereo
  let cur := cx.cursor.toNat
  if cx.n ≤ cx.unit then .ok ([cx.key], cx)
  else if cx.len.toNat < cur + 5 * c then .error .truncated
  else
    let a := cx.base.toNat + cur
    let next := readFrame m cx.stereo (a + 3 * c)
    .ok (cx.key :: [1, 2, 3].map (frInterior m cx.stereo a cx.key next),
      { cx with key := next, cursor := BitVec.ofNat 32 (cur + 5 * c) })

end Sys2Proof.Machine
end

