-- ==== Sys2Proof/Machine/Adaptive.lean ====
section
/-! DEFINITION. The Adaptive-Delta codec: ENC_AD (R111-R119) and the decoding of one unit (R122). -/

namespace Sys2Proof.Machine

/-! ### Encoding -/

/-- One chunk after the first pass (R119): its type and its payload. -/
structure AdChunk where
  type : AdType
  payload : List Byte
deriving DecidableEq, Repr

/-- R117: a run: its type and the payloads of its chunks, in order. -/
structure AdRun where
  type : AdType
  payloads : List (List Byte)
deriving DecidableEq, Repr

/-- R114: the deltas of successive frames, frame-major, each against the previous sample of the same channel. -/
def adDeltas (stereo : Bool) : Frame → List Frame → List Int
  | _, [] => []
  | prev, x :: rest =>
    ((List.range (channels stereo)).map fun ch => (x.get ch).toInt - (prev.get ch).toInt) ++ adDeltas stereo x rest

/-- R114: `maxAbsDelta`. -/
def maxAbsDelta (ds : List Int) : Nat := ds.foldl (fun acc d => max acc d.natAbs) 0

/-- R115: the type of a chunk; the first chunk is always Full. -/
def adClassify (first : Bool) (ds : List Int) : AdType :=
  if first then .full
  else if maxAbsDelta ds ≤ Config.adSmallMax then .small
  else if maxAbsDelta ds ≤ Config.adMediumMax then .medium
  else .full

/-- R91: the 24-bit word of a pair of deltas. -/
def mediumWord (a b : Int) : Nat := (a % 4096).toNat + 4096 * (b % 4096).toNat

/-- R116: the Medium payload: 3 bytes for each pair of deltas. -/
def mediumBytes : List Int → List Byte
  | a :: b :: rest => leBytes 3 (mediumWord a b) ++ mediumBytes rest
  | _ => []

/-- R116: the payload of a chunk. -/
def adPayload (stereo : Bool) (t : AdType) (fs : List Frame) (ds : List Int) : List Byte :=
  match t with
  | .small => ds.map fun d => BitVec.ofInt 8 d
  | .medium => mediumBytes ds
  | .full => pcmBytes stereo fs

/-- R111: the frames of chunk `k`. -/
def adChunkFrames (x : Nat → Frame) (k : Nat) : List Frame := (List.range Config.adChunk).map fun f => x (8 * k + f)

/-- R119, pass 1, for the `count` chunks from `k` on, with the accumulator before chunk `k` (R112). -/
def adPass1 (stereo : Bool) (x : Nat → Frame) : Nat → Nat → Frame → List AdChunk
  | 0, _, _ => []
  | count + 1, k, acc =>
    let fs := adChunkFrames x k
    let ds := adDeltas stereo acc fs
    let t := adClassify (k == 0) ds
    ⟨t, adPayload stereo t fs ds⟩ :: adPass1 stereo x count (k + 1) (x (8 * k + 7))

/-- R117: greedy grouping, with a run of type `t` and payloads `cur` begun. -/
def adGroupFrom (t : AdType) (cur : List (List Byte)) : List AdChunk → List AdRun
  | [] => [⟨t, cur⟩]
  | ch :: rest =>
    if ch.type = t ∧ cur.length < Config.adRunMax then adGroupFrom t (cur ++ [ch.payload]) rest
    else ⟨t, cur⟩ :: adGroupFrom ch.type [ch.payload] rest

/-- R117: the runs of a list of chunks. -/
def adGroup : List AdChunk → List AdRun
  | [] => []
  | ch :: rest => adGroupFrom ch.type [ch.payload] rest

/-- R88, R117: a run as bytes: its header, then its payloads. -/
def adRunBytes (r : AdRun) : List Byte := runHeaderByte r.type.code (r.payloads.length - 1) :: r.payloads.flatten

/-- R77: frame `f` of the PCM buffer at `src`. -/
def adSource (m : List Host.Cell) (stereo : Bool) (src : Nat) (f : Nat) : Frame :=
  readFrame m stereo (src + 2 * channels stereo * f)

/-- R111: m, the number of AD chunks of F frames. -/
def adChunkCount (frames : Nat) : Nat := frames / Config.adChunk

/-- R113, R119: the chunks ENC_AD encodes; the accumulator's seed is 0. -/
def encAdChunks (stereo : Bool) (s : State) : List AdChunk :=
  adPass1 stereo (adSource s.mem stereo s.arg0.toNat) (adChunkCount s.arg2.toNat) 0 Frame.zero

/-- R119: the runs of ENC_AD. -/
def encAdRuns (stereo : Bool) (s : State) : List AdRun := adGroup (encAdChunks stereo s)

/-- R85, R119: the body ENC_AD writes. -/
def encAdBody (stereo : Bool) (s : State) : List Byte := (encAdRuns stereo s).flatMap adRunBytes

/-- R159: the number of chunks of a type. -/
def adCount (t : AdType) (cs : List AdChunk) : Nat := (cs.filter fun c => decide (c.type = t)).length

/-- R159: the number of runs of length 64. -/
def adSaturated (rs : List AdRun) : Nat := (rs.filter fun r => decide (r.payloads.length = Config.adRunMax)).length

/-- R119: the destination region of ENC_AD. -/
def encAdDest (stereo : Bool) (s : State) : Region := ⟨s.arg1.toNat, (encAdBody stereo s).length⟩

/-- R119: the checks of ENC_AD, in order. -/
def encAdCheck (stereo : Bool) (s : State) : Except ErrCode Unit :=
  if s.arg2 = 0 then .error .unsupported
  else if !s.valid (encSource stereo s) then .error .region
  else if s.arg3.toNat < (encAdBody stereo s).length then .error .capacity
  else if !s.valid (encAdDest stereo s) then .error .region
  else if (encSource stereo s).overlaps (encAdDest stereo s) = true then .error .overlap
  else if s.overlapsOpen (encAdDest stereo s) then .error .overlap
  else .ok ()

/-- R119: the diagnostic counters after an ENC_AD that ends OK. -/
def State.setAdDiag (s : State) (chunks : List AdChunk) (runs : List AdRun) : State :=
  s.setDiag (adCount .small chunks) (adCount .medium chunks) (adCount .full chunks) runs.length (adSaturated runs)

/-- R119: ENC_AD. -/
def execEncAd (stereo : Bool) (s : State) : Host.Outcome State Fault Refusal :=
  match encAdCheck stereo s with
  | .error e => .next (s.raise e)
  | .ok () =>
    .next ((((s.store s.arg1.toNat (encAdBody stereo s)).setRes0 (encAdBody stereo s).length).setRes1
      (adChunkCount s.arg2.toNat)).setAdDiag (encAdChunks stereo s) (encAdRuns stereo s)).finish

/-! ### Decoding -/

/-- R122: the deltas of a Small payload at `a`. -/
def smallDeltas (m : List Host.Cell) (c a : Nat) : List Int :=
  (List.range (8 * c)).map fun i => (readByte m (a + i)).toInt

/-- R91, R122: the deltas of a Medium payload at `a`. -/
def mediumDeltas (m : List Host.Cell) (c a : Nat) : List Int :=
  (List.range (4 * c)).flatMap fun g =>
    let w := readNat m (a + 3 * g) 3
    [sext12 w, sext12 (w / 4096)]

/-- R122, R123: mono frames from deltas, each added to the frame before it. -/
def integrateMono (prev : Sample) : List Int → List Frame
  | [] => []
  | d :: rest => ⟨wrap16 (prev.toInt + d), 0⟩ :: integrateMono (wrap16 (prev.toInt + d)) rest

/-- R122, R123: stereo frames from deltas, each channel chained separately. -/
def integrateStereo (prev : Frame) : List Int → List Frame
  | d0 :: d1 :: rest =>
    ⟨wrap16 (prev.ch0.toInt + d0), wrap16 (prev.ch1.toInt + d1)⟩ ::
      integrateStereo ⟨wrap16 (prev.ch0.toInt + d0), wrap16 (prev.ch1.toInt + d1)⟩ rest
  | _ => []

/-- R122: the frames of a list of deltas. -/
def integrate (stereo : Bool) (prev : Frame) (ds : List Int) : List Frame :=
  if stereo then integrateStereo prev ds else integrateMono prev.ch0 ds

/-- R122: the 8 frames of a chunk whose payload is at `a`. -/
def adFrames (m : List Host.Cell) (stereo : Bool) (t : AdType) (a : Nat) (acc : Frame) : List Frame :=
  match t with
  | .small => integrate stereo acc (smallDeltas m (channels stereo) a)
  | .medium => integrate stereo acc (mediumDeltas m (channels stereo) a)
  | .full => (List.range Config.adChunk).map fun f => readFrame m stereo (a + 2 * channels stereo * f)

/-- R122: the chunk rule, once the header is settled: a payload of type `t` at offset `cur` of the stream, with `left`
chunks of the run still to decode, this one included. -/
def adPayloadUnit (m : List Host.Cell) (cx : Ctx) (cur : Nat) (t : AdType) (left : Nat) :
    Except ErrCode (List Frame × Ctx) :=
  let size := t.width * channels cx.stereo
  if cx.len.toNat < cur + size then .error .truncated
  else
    let fs := adFrames m cx.stereo t (cx.base.toNat + cur) cx.acc
    .ok (fs, { cx with
      acc := fs.getLastD cx.acc, cursor := BitVec.ofNat 32 (cur + size), runType := t, runLeft := left - 1 })

/-- R122: the effect of a run header of type `t` (`none`: the reserved type) and field `extra`, standing at the
context's cursor: its checks, then the first chunk of its run. -/
def adHeaderUnit (m : List Host.Cell) (cx : Ctx) (t : Option AdType) (extra : Nat) :
    Except ErrCode (List Frame × Ctx) :=
  match t with
  | none => .error .malformed
  | some t =>
    if cx.unit = 0 ∧ t ≠ .full then .error .malformed
    else adPayloadUnit m cx (cx.cursor.toNat + 1) t (extra + 1)

/-- R122: the fetch of the run header at the context's cursor; none when it lies past the stream region. -/
def fetchRunHeader (m : List Host.Cell) (cx : Ctx) : Option Byte :=
  if cx.len.toNat < cx.cursor.toNat + 1 then none else some (readByte m (cx.base.toNat + cx.cursor.toNat))

/-- R122: the decoding of the AD unit at the context's position. -/
def adDecodeUnit (m : List Host.Cell) (cx : Ctx) : Except ErrCode (List Frame × Ctx) :=
  if cx.runLeft = 0 then
    match fetchRunHeader m cx with
    | none => .error .truncated
    | some h => adHeaderUnit m cx (AdType.ofCode (headerTypeField h)) (headerExtraField h)
  else adPayloadUnit m cx cx.cursor.toNat cx.runType cx.runLeft

end Sys2Proof.Machine
end

