-- ==== Sys2Proof/Machine/Streaming.lean ====
section
/-! DEFINITION. The streaming decoders: DEC_OPEN (R131), DEC_READ (R134, R135), DEC_RESET (R138), DEC_CLOSE (R140), the
run headers as instructions (R92, R122), and a DEC_READ in progress. -/

namespace Sys2Proof.Machine

/-! ### Units -/

/-- R127: the frames of the unit at the context's position. -/
def unitLen (cx : Ctx) : Nat :=
  if cx.lossy then (if cx.n ≤ cx.unit then 1 else Config.frChunk) else Config.adChunk

/-- R129: `ctx.unit <- u + 1` after a unit that raised nothing. -/
def advanceUnit : Except ErrCode (List Frame × Ctx) → Except ErrCode (List Frame × Ctx)
  | .error e => .error e
  | .ok (fs, cx) => .ok (fs, { cx with unit := cx.unit + 1 })

/-- R129: one decoding step of a context. -/
def decodeUnit (m : List Host.Cell) (cx : Ctx) : Except ErrCode (List Frame × Ctx) :=
  advanceUnit (if cx.lossy then frDecodeUnit m cx else adDecodeUnit m cx)

/-- R134, branch 3: a unit kept in scratch, of which `off` frames are delivered. -/
def Ctx.stash (cx : Ctx) (fs : List Frame) (off : Nat) : Ctx :=
  { cx with ovf := fs ++ cx.ovf.drop fs.length, ovfLen := fs.length, ovfOff := off }

/-- R134, branches 2 and 3: `need` more frames. Each unit has at least one frame, so `fuel = need` suffices. -/
def decodeFrames (m : List Host.Cell) : Nat → Ctx → Nat → Except ErrCode (List Frame × Ctx)
  | 0, cx, _ => .ok ([], cx)
  | fuel + 1, cx, need =>
    if need = 0 then .ok ([], cx)
    else
      match decodeUnit m cx with
      | .error e => .error e
      | .ok (fs, cx') =>
        if unitLen cx ≤ need then
          match decodeFrames m fuel cx' (need - fs.length) with
          | .error e => .error e
          | .ok (rest, cx'') => .ok (fs ++ rest, cx'')
        else .ok (fs.take need, cx'.stash fs need)

/-- R134, branch 1: the frames held in scratch that a request of `k` frames drains. -/
def drainCount (cx : Ctx) (k : Nat) : Nat := min k (cx.ovfLen - cx.ovfOff)

/-- R134, branch 1: those frames. -/
def drained (cx : Ctx) (k : Nat) : List Frame := (cx.ovf.drop cx.ovfOff).take (drainCount cx k)

/-- R134: the `k` frames a read delivers, and the context after it, less its counters and state. -/
def readFrames (m : List Host.Cell) (cx : Ctx) (k : Nat) : Except ErrCode (List Frame × Ctx) :=
  match decodeFrames m (k - drainCount cx k) { cx with ovfOff := cx.ovfOff + drainCount cx k } (k - drainCount cx k) with
  | .error e => .error e
  | .ok (rest, cx') => .ok (drained cx k ++ rest, cx')

/-- R134, R137: the position after `need` more frames. UnitLen depends on no stream byte (R127), so neither does it. -/
def passUnits : Nat → Ctx → Nat → Ctx
  | 0, cx, _ => cx
  | fuel + 1, cx, need =>
    if need = 0 then cx
    else if unitLen cx ≤ need then passUnits fuel { cx with unit := cx.unit + 1 } (need - unitLen cx)
    else { cx with unit := cx.unit + 1, ovfLen := unitLen cx, ovfOff := need }

/-- R134, R137: the position (`unit`, `ovfLen`, `ovfOff`) of a context after a read of `k` frames. -/
def passFrames (cx : Ctx) (k : Nat) : Ctx :=
  passUnits (k - drainCount cx k) { cx with ovfOff := cx.ovfOff + drainCount cx k } (k - drainCount cx k)

/-! ### Shared parts of the commands -/

/-- R131, R134, R138: the state of an open context with `left` frames to deliver, when it holds `st` otherwise. -/
def stateFor (left : Word) (st : CtxState) : CtxState := if left = 0 then .exhausted else st

/-- R134: the counters and the state of a context after `k` frames. -/
def Ctx.account (cx : Ctx) (k : Nat) : Ctx :=
  let left := cx.remaining - BitVec.ofNat 32 k
  { cx with
    remaining := left, pos := cx.pos + BitVec.ofNat 32 k,
    st := if k = 0 then cx.st else stateFor left .reading }

/-- R134: the destination region of a read that delivers `k` frames. -/
def readRegion (stereo : Bool) (dst k : Nat) : Region := ⟨dst, 2 * channels stereo * k⟩

/-- R134: the end of a read of context `c` that delivers `k` frames and leaves `cx`. -/
def State.endRead (s : State) (c k : Nat) (cx : Ctx) : State :=
  (((s.setCtx c (cx.account k)).setReading none).setRes0 k).finish

/-- R135, R152: the end of a read of context `c`, held as `cx`, that met the stream error `e`. -/
def State.failRead (s : State) (c : Nat) (cx : Ctx) (dst k : Nat) (e : ErrCode) : State :=
  (((s.setCtx c { cx.scramble s.freeTick with st := .faulted }).setReading none).scramble
    (readRegion cx.stereo dst k)).raise e

/-- R137, R171: a context after an OK read of `left` frames of a changed stream, before its counters advance. The frames
decoded so far are counted as ever; what the bytes decide is free, the cursor in the stream region (log 7). -/
def Ctx.staleAfter (cx : Ctx) (left tick : Nat) : Ctx :=
  { cx.scramble tick with
    remaining := cx.remaining, pos := cx.pos, unit := (passFrames cx left).unit,
    ovfLen := (passFrames cx left).ovfLen, ovfOff := (passFrames cx left).ovfOff,
    cursor := BitVec.ofNat 32 ((Config.freeWord tick 2).toNat % (cx.len.toNat + 1)) }

/-- R171: the end of a read of a context whose stream the host has changed, of whose `k` frames `left` are still to be
delivered: which of OK, TRUNCATED and MALFORMED it is, and the bytes it leaves, are free. -/
def State.staleRead (s : State) (c : Nat) (cx : Ctx) (dst k left : Nat) : State :=
  match (Config.freeWord s.freeTick 28).toNat % 3 with
  | 0 => (s.scramble (readRegion cx.stereo dst k)).endRead c k (cx.staleAfter left s.freeTick)
  | 1 => s.failRead c cx dst k .truncated
  | _ => s.failRead c cx dst k .malformed

/-- The stream of a context lies in memory and holds its leading key: what DEC_OPEN establishes (R45, R131). -/
def Ctx.inSpace (cx : Ctx) : Bool :=
  decide (cx.base.toNat + cx.len.toNat ≤ Config.addrSpace) &&
    (!cx.lossy || decide (Config.preambleBytes + 2 * channels cx.stereo ≤ cx.len.toNat))

/-- R131, R138: a context at the start of its stream: K_0 read again, or the accumulators and the run header cleared. -/
def Ctx.rewind (m : List Host.Cell) (cx : Ctx) : Ctx :=
  let body := cx.base.toNat + Config.preambleBytes
  let start := { cx with
    unit := 0, pos := 0, remaining := cx.total, ovfLen := 0, ovfOff := 0,
    ovf := List.replicate Config.scratchFrames Frame.zero, st := stateFor cx.total .idle, stale := false }
  if cx.lossy then
    { start with
      key := readFrame m cx.stereo body, cursor := BitVec.ofNat 32 (Config.preambleBytes + 2 * channels cx.stereo) }
  else
    { start with
      acc := Frame.zero, runType := .small, runLeft := 0, cursor := BitVec.ofNat 32 Config.preambleBytes }

/-! ### DEC_OPEN -/

/-- R80, R82: a preamble as a reader takes it. -/
structure Preamble where
  frames : Word
  rate : Word
  stereo : Bool
  lossy : Bool
deriving DecidableEq, Repr

/-- R80, R82: the preamble at an address; any byte that is not 0 is true. -/
def readPreamble (m : List Host.Cell) (a : Nat) : Preamble :=
  { frames := BitVec.ofNat 32 (readNat m a 4), rate := BitVec.ofNat 32 (readNat m (a + 4) 4),
    stereo := decide (readByte m (a + 8) ≠ 0), lossy := decide (readByte m (a + 9) ≠ 0) }

/-- R128: T. -/
def totalFrames (p : Preamble) : Nat :=
  if p.lossy then p.frames.toNat else Config.adChunk * (p.frames.toNat / Config.adChunk)

/-- R131: the number of FR chunks of a stream; 0 for an AD stream. -/
def preambleChunks (p : Preamble) : Nat := if p.lossy then frChunks p.frames.toNat else 0

/-- R131: the checks of DEC_OPEN, in order. The first is R69's BAD_CTX. -/
def decOpenCheck (c : Nat) (s : State) : Except ErrCode Preamble :=
  match s.ctxs[c]? with
  | none => .error .badCtx
  | some cx =>
    let p := readPreamble s.mem s.arg0.toNat
    if cx.st ≠ .closed then .error .ctxState
    else if !s.valid ⟨s.arg0.toNat, s.arg1.toNat⟩ then .error .region
    else if s.arg1.toNat < Config.preambleBytes then .error .truncated
    else if p.frames = 0 then .error .unsupported
    else if p.lossy = true ∧ s.arg1.toNat < Config.preambleBytes + 2 * channels p.stereo then .error .truncated
    else .ok p

/-- R131: the context DEC_OPEN leaves. -/
def openedCtx (m : List Host.Cell) (base len : Word) (p : Preamble) : Ctx :=
  Ctx.rewind m { Ctx.closed with
    base := base, len := len, frames := p.frames, rate := p.rate, stereo := p.stereo, lossy := p.lossy,
    n := BitVec.ofNat 32 (preambleChunks p), total := BitVec.ofNat 32 (totalFrames p) }

/-- R131: RES2 of DEC_OPEN: bit 0 stereo, bit 1 lossy. -/
def openFlags (p : Preamble) : Nat := p.stereo.toNat + 2 * p.lossy.toNat

/-- R131: DEC_OPEN. -/
def execDecOpen (c : Nat) (s : State) : Host.Outcome State Fault Refusal :=
  match decOpenCheck c s with
  | .error e => .next (s.raise e)
  | .ok p =>
    .next (((((s.setCtx c (openedCtx s.mem s.arg0 s.arg1 p)).setRes0 p.frames.toNat).setRes1
      p.rate.toNat).setRes2 (openFlags p)).setRes3 (totalFrames p)).finish

/-! ### DEC_READ -/

/-- R134: the frames a read of `count` frames delivers. -/
def deliverCount (cx : Ctx) (count : Word) : Nat := min count.toNat cx.remaining.toNat

/-- R134: the checks of DEC_READ, in order; the context and the frames to deliver. The first is R69's BAD_CTX. -/
def decReadCheck (c : Nat) (s : State) : Except ErrCode (Ctx × Nat) :=
  match s.ctxs[c]? with
  | none => .error .badCtx
  | some cx =>
    let k := deliverCount cx s.arg2
    if cx.st = .closed then .error .ctxState
    else if cx.st = .faulted then .error .faulted
    else if s.arg1.toNat < 2 * channels cx.stereo * s.arg2.toNat then .error .capacity
    else if !s.valid (readRegion cx.stereo s.arg0.toNat k) then .error .region
    else if s.overlapsOpen (readRegion cx.stereo s.arg0.toNat k) then .error .overlap
    else .ok (cx, k)

/-- R134, R135: DEC_READ. The destination meets no open stream, so the frames may all be decoded from the memory
before the write (R169). -/
def execDecRead (c : Nat) (s : State) : Host.Outcome State Fault Refusal :=
  match decReadCheck c s with
  | .error e => .next (s.raise e)
  | .ok (cx, k) =>
    if !cx.inSpace then .fault .noSuchAddress
    else if cx.stale then .next (s.staleRead c cx s.arg0.toNat k k)
    else
      match readFrames s.mem cx k with
      | .error e => .next (s.failRead c cx s.arg0.toNat k e)
      | .ok (fs, cx') => .next ((s.store s.arg0.toNat (pcmBytes cx.stereo fs)).endRead c k cx')

/-! ### DEC_RESET and DEC_CLOSE -/

/-- R138, R140: the check DEC_RESET and DEC_CLOSE make: the context exists (R69) and is open. -/
def openCtxCheck (c : Nat) (s : State) : Except ErrCode Ctx :=
  match s.ctxs[c]? with
  | none => .error .badCtx
  | some cx => if cx.st = .closed then .error .ctxState else .ok cx

/-- R138: DEC_RESET. -/
def execDecReset (c : Nat) (s : State) : Host.Outcome State Fault Refusal :=
  match openCtxCheck c s with
  | .error e => .next (s.raise e)
  | .ok cx =>
    if !cx.inSpace then .fault .noSuchAddress
    else .next ((s.setCtx c (cx.rewind s.mem)).setRes0 cx.total.toNat).finish

/-- R140: DEC_CLOSE. -/
def execDecClose (c : Nat) (s : State) : Host.Outcome State Fault Refusal :=
  match openCtxCheck c s with
  | .error e => .next (s.raise e)
  | .ok _ => .next (s.setCtx c Ctx.closed).finish

/-! ### A DEC_READ in progress, and the run headers as instructions (log 3) -/

/-- R134: one pass of the loop of a read in progress: a decoded unit delivered, or its needed prefix delivered and
the unit kept in scratch; the read ends when its k frames are written. -/
def State.deliverUnit (s : State) (job : ReadJob) (fs : List Frame) (cx : Ctx) : State :=
  let need := job.k - job.written
  let out := fs.take need
  let cx' := if need < fs.length then cx.stash fs need else cx
  let s' := s.store (job.dst + 2 * channels cx.stereo * job.written) (pcmBytes cx.stereo out)
  if job.written + out.length < job.k then
    (s'.setCtx job.ctx cx').setReading (some { job with written := job.written + out.length })
  else s'.endRead job.ctx job.k cx'

/-- The end of a pass of the loop of a read in progress: a unit delivered (R134), or the error it raised (R135). -/
def State.endUnit (s : State) (job : ReadJob) (cx : Ctx) : Except ErrCode (List Frame × Ctx) → State
  | .error e => s.failRead job.ctx cx job.dst job.k e
  | .ok (fs, cx') => s.deliverUnit job fs cx'

/-- R122: the read in progress whose AD decoder waits for a run header: more frames are needed, scratch is drained and
the run before is used up. -/
def State.awaitsHeader (s : State) : Option (ReadJob × Ctx) :=
  match s.reading with
  | none => none
  | some job =>
    match s.ctxs[job.ctx]? with
    | none => none
    | some cx =>
      if !cx.lossy && decide (cx.runLeft = 0) && decide (job.written < job.k) && !cx.stale then some (job, cx) else none

/-- R92, R122: a run header met by the AD decoder of the read in progress: its checks, the first chunk of its run, and
that chunk's frames delivered (R129, R134) or its error (R135). -/
def runHeader (t : Option AdType) (extra : Nat) (s : State) : Host.Outcome State Fault Refusal :=
  match s.awaitsHeader with
  | none => .refused .notInRead
  | some (job, cx) =>
    if !cx.inSpace then .fault .noSuchAddress
    else .next (s.endUnit job cx (advanceUnit (adHeaderUnit s.mem cx t extra)))

/-- R92, R122: a Small run header. -/
def execAdSmall (extra : Nat) (s : State) : Host.Outcome State Fault Refusal := runHeader (some .small) extra s

/-- R92, R122: a Medium run header. -/
def execAdMedium (extra : Nat) (s : State) : Host.Outcome State Fault Refusal := runHeader (some .medium) extra s

/-- R92, R122: a Full run header. -/
def execAdFull (extra : Nat) (s : State) : Host.Outcome State Fault Refusal := runHeader (some .full) extra s

/-- R89, R92, R122: a run header of the reserved type: MALFORMED, and the context is FAULTED (R135). -/
def execAdReserved (extra : Nat) (s : State) : Host.Outcome State Fault Refusal := runHeader none extra s

/-- The run header the next step fetches: the byte at the cursor of the AD decoder that waits for one. -/
def State.pendingHeader (s : State) : Option Byte :=
  match s.awaitsHeader with
  | none => none
  | some (_, cx) => fetchRunHeader s.mem cx

/-- R134, R135: one pass of the loop of a read in progress that fetches no run header: a unit of an FR stream, a chunk
of a run already begun, a header past the end of the stream, or the end of the read. -/
def State.continueRead (s : State) (job : ReadJob) : Host.Outcome State Fault Refusal :=
  match s.ctxs[job.ctx]? with
  | none => .refused .notInRead
  | some cx =>
    if !cx.inSpace then .fault .noSuchAddress
    else if cx.stale then .next (s.staleRead job.ctx cx job.dst job.k (job.k - job.written))
    else if job.k ≤ job.written then .next (s.endRead job.ctx job.k cx)
    else .next (s.endUnit job cx (decodeUnit s.mem cx))

end Sys2Proof.Machine
end

