-- ==== Sys2Proof/Machine/HostAccess.lean ====
section
/-! DEFINITION. What the host and the platform do (R176, R163, R166): accesses to the register window, to memory, and
the platform's reset. -/

namespace Sys2Proof.Machine

/-- R23: the offset of CMD. -/
def cmdOffset : Nat := 0x04

/-- R32: the host reaches the registers only with aligned 32-bit accesses. -/
def windowAligned (width : Nat) (offset : Byte) : Bool := decide (width = 4) && decide (offset.toNat % 4 = 0)

/-- R23, R31: the value of the register at an aligned window offset; a reserved one reads 0. -/
def State.readWindow (s : State) (offset : Nat) : Word :=
  match offset with
  | 0x00 => s.idWord
  | 0x04 => s.cmd
  | 0x08 => s.statusWord
  | 0x0C => s.arg0
  | 0x10 => s.arg1
  | 0x14 => s.arg2
  | 0x18 => s.arg3
  | 0x1C => s.res0
  | 0x20 => s.res1
  | 0x24 => s.res2
  | 0x28 => s.res3
  | 0x2C => s.diagSmall
  | 0x30 => s.diagMedium
  | 0x34 => s.diagFull
  | 0x38 => s.diagRuns
  | 0x3C => s.diagSat
  | 0x40 => s.ctxStateWord
  | _ => 0

/-- R27, R31: a write of the register at an aligned window offset other than CMD's. Only the ARG registers take it. -/
def State.writeWindow (s : State) (offset : Nat) (v : Word) : State :=
  match offset with
  | 0x0C => { s with arg0 := v }
  | 0x10 => { s with arg1 := v }
  | 0x14 => { s with arg2 := v }
  | 0x18 => { s with arg3 := v }
  | _ => s

/-- R176: the host reads a window register. -/
def hostRegRead (width : Nat) (offset : Byte) (s : State) : Host.Outcome State Fault Refusal :=
  if windowAligned width offset then .next { s with hostData := s.readWindow offset.toNat }
  else .refused .windowAccess

/-- R176: the host reads a byte of memory. -/
def hostMemRead (addr : Word) (s : State) : Host.Outcome State Fault Refusal :=
  .next { s with hostData := (readByte s.mem addr.toNat).setWidth 32 }

/-- R57, R171: a context after the host has changed the byte at `addr`: stale if its open stream holds that byte. -/
def Ctx.noteChange (addr : Nat) (cx : Ctx) : Ctx :=
  if cx.st ≠ .closed ∧ cx.base.toNat ≤ addr ∧ addr < cx.base.toNat + cx.len.toNat then { cx with stale := true } else cx

/-- R176, R171: the host writes a byte of memory; a byte that keeps its value is no change. -/
def hostMemWrite (addr : Word) (v : Byte) (s : State) : Host.Outcome State Fault Refusal :=
  if readByte s.mem addr.toNat = v then .next s
  else .next { s with mem := writeByte s.mem addr.toNat v, ctxs := s.ctxs.map (Ctx.noteChange addr.toNat) }

/-- R41, R163: the block after its reset. Memory, the platform and what the host does next are not the block's. -/
def State.blockReset (s : State) : State :=
  { State.reset with
    ctxs := s.ctxs.map fun _ => Ctx.closed, mem := s.mem, platform := s.platform, inbox := s.inbox,
    hostData := s.hostData, freeTick := s.freeTick }

/-- R163: the platform's reset between commands. -/
def hostReset (s : State) : Host.Outcome State Fault Refusal := .next s.blockReset

/-- A region if the command's checks let it write, the empty region if not (log 10). -/
def regionIf {α : Type} (checks : Except ErrCode α) (r : Region) : Region :=
  match checks with
  | .error _ => ⟨0, 0⟩
  | .ok _ => r

/-- The destination region of a DEC_READ. -/
def decReadDest (c : Nat) (s : State) : Region :=
  match decReadCheck c s with
  | .error _ => ⟨0, 0⟩
  | .ok (cx, k) => readRegion cx.stereo s.arg0.toNat k

/-- R51: the destination region of a command that passes its checks. -/
def destRegion (i : Instr) (s : State) : Region :=
  match i with
  | .nop => ⟨0, 0⟩
  | .cvtF32 => regionIf (cvtCheck s) (cvtDest s)
  | .hdrWrite _ _ => regionIf (hdrCheck s) (hdrRegion s)
  | .encFr stereo => regionIf (encFrCheck stereo s) (encFrDest stereo s)
  | .encAd stereo => regionIf (encAdCheck stereo s) (encAdDest stereo s)
  | .decOpen _ => ⟨0, 0⟩
  | .decRead c => decReadDest c s
  | .decReset _ => ⟨0, 0⟩
  | .decClose _ => ⟨0, 0⟩
  | .adSmall _ => ⟨0, 0⟩
  | .adMedium _ => ⟨0, 0⟩
  | .adFull _ => ⟨0, 0⟩
  | .adReserved _ => ⟨0, 0⟩

/-- R166: the platform's reset while the command `word` runs: its destination bytes are free, then the block is reset. -/
def hostResetDuring (word : Word) (s : State) : Host.Outcome State Fault Refusal :=
  match decodeWord word with
  | .error _ => .next s.blockReset
  | .ok i => .next (s.scramble (destRegion i s)).blockReset

/-! ### Commands that another bus master disturbs (R52, R174, log 8) -/

/-- The bytes of `count` from `addr` on that exist (R43). -/
def clipRegion (addr count : Word) : Region := ⟨addr.toNat, min count.toNat (Config.addrSpace - addr.toNat)⟩

/-- The region of a context, empty where there is no such context. -/
def State.streamRegion (s : State) (c : Nat) : Region :=
  match s.ctxs[c]? with
  | none => ⟨0, 0⟩
  | some cx => cx.region

/-- R51: the region a command reads. -/
def sourceRegion (i : Instr) (s : State) : Region :=
  match i with
  | .nop => ⟨0, 0⟩
  | .cvtF32 => cvtSource s
  | .hdrWrite _ _ => ⟨0, 0⟩
  | .encFr stereo => encSource stereo s
  | .encAd stereo => encSource stereo s
  | .decOpen _ => ⟨s.arg0.toNat, s.arg1.toNat⟩
  | .decRead c => s.streamRegion c
  | .decReset c => s.streamRegion c
  | .decClose _ => ⟨0, 0⟩
  | .adSmall _ => ⟨0, 0⟩
  | .adMedium _ => ⟨0, 0⟩
  | .adFull _ => ⟨0, 0⟩
  | .adReserved _ => ⟨0, 0⟩

/-- R171: a context after bytes of `r` have changed: stale if its open stream meets them. -/
def Ctx.noteChanges (r : Region) (cx : Ctx) : Ctx :=
  if cx.st ≠ .closed ∧ r.overlaps cx.region = true then { cx with stale := true } else cx

/-- R52, R174: the bytes of `r` take unspecified values, and the open streams that meet them are changed (R171). -/
def State.disturb (s : State) (r : Region) : State :=
  { s.scramble r with ctxs := s.ctxs.map (Ctx.noteChanges r) }

/-- R52: the destination bytes that are unspecified after the command `i`, run from `s`, when another bus master writes
`r`: all of them if the command uses a byte of `r`, and none if not. -/
def disturbedDest (i : Instr) (r : Region) (s : State) : Region :=
  if r.overlaps (sourceRegion i s) = true ∨ r.overlaps (destRegion i s) = true then destRegion i s else ⟨0, 0⟩

/-- R52: the state after a disturbed command that left `t`: the destination bytes are unspecified, and so are those of
`r`, whatever the command read there. -/
def State.settle (t : State) (dest r : Region) : State := (t.scramble dest).disturb r

/-- R75, R76: the host writes of a command line: the operands given to ARG0, ARG1, …, then the word to CMD. -/
def argWrites : List Word → Nat → List HostAction
  | [], _ => []
  | v :: rest, offset => .regWrite 4 (BitVec.ofNat 8 offset) v :: argWrites rest (offset + 4)

/-- R75, R76: a command line: its instruction and up to four operands. -/
def commandLine (i : Instr) (operands : List Word) : List HostAction :=
  argWrites (operands.take 4) 0x0C ++ [.regWrite 4 (BitVec.ofNat 8 cmdOffset) (BitVec.ofNat 32 (encode i).bits)]

end Sys2Proof.Machine
end

