-- ==== Sys2Proof/Machine/Dispatch.lean ====
section
/-! DEFINITION. The dispatch: one arm for each constructor of Instr, each a direct call of its meaning. -/

namespace Sys2Proof.Machine

def exec (i : Instr) (s : State) : Host.Outcome State Fault Refusal :=
  match i with
  | .nop => Sys2Proof.Machine.execNop s
  | .cvtF32 => Sys2Proof.Machine.execCvtF32 s
  | .hdrWrite stereo lossy => Sys2Proof.Machine.execHdrWrite stereo lossy s
  | .encFr stereo => Sys2Proof.Machine.execEncFr stereo s
  | .encAd stereo => Sys2Proof.Machine.execEncAd stereo s
  | .decOpen ctx => Sys2Proof.Machine.execDecOpen ctx s
  | .decRead ctx => Sys2Proof.Machine.execDecRead ctx s
  | .decReset ctx => Sys2Proof.Machine.execDecReset ctx s
  | .decClose ctx => Sys2Proof.Machine.execDecClose ctx s
  | .adSmall extra => Sys2Proof.Machine.execAdSmall extra s
  | .adMedium extra => Sys2Proof.Machine.execAdMedium extra s
  | .adFull extra => Sys2Proof.Machine.execAdFull extra s
  | .adReserved extra => Sys2Proof.Machine.execAdReserved extra s

end Sys2Proof.Machine
end

