-- ==== Sys2Proof/Machine/Step.lean ====
section
/-! DEFINITION. One step of the machine: the next host action, or one unit of a DEC_READ in progress; and where the
host's question places an instruction. -/

namespace Sys2Proof.Machine

/-- R25, R69: the command of a CMD write: the word is stored, then the instruction it encodes runs to completion; an
illegal word raises ILLEGAL_CMD and changes nothing else (R70). -/
def runCommand (word : Word) (s : State) : Host.Outcome State Fault Refusal :=
  match decodeWord word with
  | .error _ => .next ({ s with cmd := word }.raise .illegalCmd)
  | .ok i => exec i { s with cmd := word }

/-- R176: a write of a window register; that of CMD runs a command. -/
def hostRegWrite (width : Nat) (offset : Byte) (v : Word) (s : State) : Host.Outcome State Fault Refusal :=
  if windowAligned width offset then
    if offset.toNat = cmdOffset then runCommand v s else .next (s.writeWindow offset.toNat v)
  else .refused .windowAccess

/-- R52, R174: a CMD write whose command is disturbed in the bytes of `r`. An illegal word uses no byte (R70). -/
def runDisturbed (word : Word) (r : Region) (s : State) : Host.Outcome State Fault Refusal :=
  match decodeWord word with
  | .error _ => runCommand word (s.disturb r)
  | .ok i =>
    match runCommand word (s.disturb r) with
    | .next t => .next (t.settle (disturbedDest i r (s.disturb r)) r)
    | .fault f => .fault f
    | .refused e => .refused e

/-- R62: a CMD write without the cache maintenance of the bytes of `r`: harmless on a coherent platform. -/
def runUncleaned (word : Word) (r : Region) (s : State) : Host.Outcome State Fault Refusal :=
  if s.platform.coherent then runCommand word s else runDisturbed word r s

/-- R176: one action of the host or the platform. -/
def perform (a : HostAction) (s : State) : Host.Outcome State Fault Refusal :=
  match a with
  | .regRead width offset => hostRegRead width offset s
  | .regWrite width offset v => hostRegWrite width offset v s
  | .memRead addr => hostMemRead addr s
  | .memWrite addr v => hostMemWrite addr v s
  | .reset => hostReset s
  | .resetDuring word => hostResetDuring word s
  | .busWriteDuring word addr count => runDisturbed word (clipRegion addr count) s
  | .skipMaintenance word addr count => runUncleaned word (clipRegion addr count) s

/-- Between commands the block is idle and holds its state (R162, R167): with no host action pending, a step changes
nothing. While a DEC_READ is in progress (log 3), a step fetches and runs the run header its decoder waits for, or
goes on with the read. -/
def step (s : State) : Host.Outcome State Fault Refusal :=
  match s.reading with
  | none =>
    match s.inbox with
    | [] => .next s
    | a :: rest => perform a { s with inbox := rest }
  | some job =>
    match s.pendingHeader with
    | some h => exec (decodeRunHeader h) s
    | none => s.continueRead job

/-- The length of the stream at address 0 that `withFetchWord` opens for a run header (log 3): the preamble, one Full
chunk, and the run header with its longest mono payload. -/
def fetchStreamLen : Nat := 44

/-- The offset of the fetched run header: after the preamble and one Full chunk. -/
def fetchCursor : Nat := 27

/-- The context of the read in progress that fetches a run header: a mono AD stream of 16 frames, its first chunk
decoded and delivered. -/
def fetchCtx : Ctx :=
  { Ctx.closed with
    st := .reading, len := BitVec.ofNat 32 fetchStreamLen, frames := 16, total := 16, remaining := 8, pos := 8,
    cursor := BitVec.ofNat 32 fetchCursor, unit := 1 }

/-- The state that fetches the instruction `w` of `nbits` bits next. A command word is the next word the host writes to
CMD. A run header is the next byte at the cursor of a DEC_READ in progress of context 0, with 16 zero payload bytes
after it. -/
def State.withFetchWord (s : State) (nbits w : Nat) : State :=
  match nbits with
  | 8 =>
    { s with
      reading := some ⟨0, 64, 8, 0⟩, ctxs := s.ctxs.set 0 fetchCtx,
      mem := writeBytes s.mem fetchCursor (BitVec.ofNat 8 w :: List.replicate 16 0) }
  | _ =>
    { s with
      reading := none, inbox := .regWrite 4 (BitVec.ofNat 8 cmdOffset) (BitVec.ofNat 32 w) :: s.inbox }

end Sys2Proof.Machine
end

