-- ==== Sys2Proof/Safety.lean ====
section
/-! DEFINITION. What statements about the machine speak of: which states a run can be in (the invariant), which
instructions are commands, and which outcomes each command has. -/

namespace Sys2Proof

/-- R18: the nine commands; the other four instructions are AD run headers, which are data (R92). -/
def Instr.isCommand (i : Instr) : Bool := decide ((encode i).nbits = 32)

namespace Machine

/-! ### The invariant -/

/-- R128: T of a context, from its F and its codec. -/
def Ctx.totalOf (cx : Ctx) : Nat :=
  if cx.lossy then cx.frames.toNat else Config.adChunk * (cx.frames.toNat / Config.adChunk)

/-- R131: the number of FR chunks of a context, from its F and its codec. -/
def Ctx.chunksOf (cx : Ctx) : Nat := if cx.lossy then frChunks cx.frames.toNat else 0

/-- R45, R128, R131: the stream of an open context lies in memory, holds its preamble and its leading key, has at
least one frame, and its T and n are those of its F. -/
def Ctx.streamOk (cx : Ctx) : Bool :=
  cx.inSpace && decide (Config.preambleBytes ≤ cx.len.toNat) && decide (cx.frames ≠ 0) &&
    decide (cx.total.toNat = cx.totalOf) && decide (cx.n.toNat = cx.chunksOf)

/-- R34: the state of an open, not faulted context, as its counters give it. -/
def Ctx.stateOk (cx : Ctx) : Bool :=
  match cx.st with
  | .closed => false
  | .idle => decide (cx.pos = 0) && decide (cx.remaining ≠ 0)
  | .reading => decide (cx.pos ≠ 0) && decide (cx.remaining ≠ 0)
  | .exhausted => decide (cx.remaining = 0)
  | .faulted => false

/-- R33, R128: `remaining` is T - pos. -/
def Ctx.countersOk (cx : Ctx) : Bool := decide (cx.remaining.toNat + cx.pos.toNat = cx.total.toNat)

/-- R137: the frame index at which the context's next unit starts: all frames decoded so far. -/
def Ctx.unitStart (cx : Ctx) : Nat :=
  if cx.lossy then min (4 * cx.unit.toNat) (4 * cx.n.toNat + 1) else 8 * cx.unit.toNat

/-- R37: the scratch buffer: 8 frames, of which `ovfLen` are held and `ovfOff` of those delivered. -/
def Ctx.scratchOk (cx : Ctx) : Bool :=
  decide (cx.ovf.length = Config.scratchFrames) && decide (cx.ovfLen ≤ Config.scratchFrames) &&
    decide (cx.ovfOff ≤ cx.ovfLen)

/-- R127: the frames of a chunk. The scratch buffer holds nothing else: the trailing key, of 1 frame, always fits the
request (R134). -/
def Ctx.chunkLen (cx : Ctx) : Nat := if cx.lossy then Config.frChunk else Config.adChunk

/-- R36, R37, R137: the decoding position of an open context that is not faulted. A unit in scratch has had at least one
frame delivered, so it holds fewer frames than its UnitLen. -/
def Ctx.positionOk (cx : Ctx) : Bool :=
  cx.scratchOk && (decide (cx.ovfLen = 0) || (decide (cx.ovfLen = cx.chunkLen) && decide (0 < cx.ovfOff))) &&
    decide (cx.unitStart = cx.pos.toNat + (cx.ovfLen - cx.ovfOff)) &&
    decide (cx.runLeft ≤ Config.adRunMax) && decide (cx.cursor.toNat ≤ cx.len.toNat)

/-- A decoder context as a run can hold it: closed with every field 0 (R41, R140), or open. -/
def Ctx.ok (cx : Ctx) : Bool :=
  if cx.st = .closed then decide (cx = Ctx.closed)
  else cx.streamOk &&
    (decide (cx.st = .faulted) || (cx.stateOk && cx.countersOk && cx.positionOk))

/-- The states a run can be in between commands: memory in its canonical form (R43), 1 to 8 contexts (R7), each as a run
can hold it, and no command in progress (R17). -/
def State.inv (s : State) : Bool :=
  memWf s.mem && memInSpace s.mem && decide (1 ≤ s.numCtx) && decide (s.numCtx ≤ 8) && s.ctxs.all Ctx.ok &&
    decide (s.reading = none)

/-! ### Outcomes -/

/-- R149: the outcomes of each command, by the column "raised by"; those of a run header are the outcomes of the
DEC_READ that meets it. -/
def mayEnd (i : Instr) (e : ErrCode) : Bool :=
  match i with
  | .nop => decide (e ∈ [ErrCode.ok])
  | .cvtF32 => decide (e ∈ [ErrCode.ok, .region, .overlap])
  | .hdrWrite _ _ => decide (e ∈ [ErrCode.ok, .region, .overlap])
  | .encFr _ => decide (e ∈ [ErrCode.ok, .unsupported, .region, .overlap, .capacity])
  | .encAd _ => decide (e ∈ [ErrCode.ok, .unsupported, .region, .overlap, .capacity])
  | .decOpen _ => decide (e ∈ [ErrCode.ok, .badCtx, .ctxState, .unsupported, .region, .truncated])
  | .decRead _ =>
    decide (e ∈ [ErrCode.ok, .badCtx, .ctxState, .faulted, .region, .overlap, .capacity, .truncated, .malformed])
  | .decReset _ => decide (e ∈ [ErrCode.ok, .badCtx, .ctxState])
  | .decClose _ => decide (e ∈ [ErrCode.ok, .badCtx, .ctxState])
  | .adSmall _ => decide (e ∈ [ErrCode.ok, .truncated, .malformed])
  | .adMedium _ => decide (e ∈ [ErrCode.ok, .truncated, .malformed])
  | .adFull _ => decide (e ∈ [ErrCode.ok, .truncated, .malformed])
  | .adReserved _ => decide (e ∈ [ErrCode.malformed])

/-- R34: the transitions of the state of the context that a command names. -/
def mayMove (i : Instr) (before after : CtxState) : Bool :=
  match i with
  | .decOpen _ => decide (before = .closed) && decide (after = .idle ∨ after = .exhausted)
  | .decRead _ =>
    (decide (before = .idle ∨ before = .reading) && decide (after = .reading ∨ after = .exhausted)) ||
      (decide (before ≠ .closed) && decide (before ≠ .faulted) && decide (after = .faulted))
  | .decReset _ => decide (before ≠ .closed) && decide (after = .idle ∨ after = .exhausted)
  | .decClose _ => decide (before ≠ .closed) && decide (after = .closed)
  | .nop => false
  | .cvtF32 => false
  | .hdrWrite _ _ => false
  | .encFr _ => false
  | .encAd _ => false
  | .adSmall _ => false
  | .adMedium _ => false
  | .adFull _ => false
  | .adReserved _ => false

end Machine

end Sys2Proof
end

