-- ==== Sys2Proof/Certificates/Slice0/Obligations.lean ====
section
/-! DEFINITION. The statements for the provers. Each docstring names the rule of spec/ it formalises; a clause that rests on
a choice of the model names its log entry. -/

open Sys2Proof Sys2Proof.Machine

/-! ### Encoding -/

/-- Decode and encode agree for every well-formed instruction, with every operand the encoding admits (R66, R68, R88,
R92). -/
def Obligations.DecodeOfEncodeIsInstr : Prop :=
  ∀ i : Instr, i.wf = true → decodeTableWord (encode i).nbits (encode i).bits = some i

/-- Encode and decode agree: a word or a run header that decodes is the encoding of what it decodes to, and only
well-formed instructions are decoded. So no two words decode to one instruction. -/
def Obligations.EncodeOfDecodeIsWord : Prop :=
  (∀ (w : Word) (i : Instr), decodeWord w = .ok i → i.wf = true ∧ encode i = ⟨32, w.toNat⟩) ∧
  (∀ h : Byte, (decodeRunHeader h).wf = true ∧ encode (decodeRunHeader h) = ⟨8, h.toNat⟩)

/-- R69, last paragraph: a word is legal exactly when it matches its row of opcode_table.json. -/
def Obligations.WordLegalExactlyWhenRowMatches : Prop :=
  ∀ w : Word, (∃ i, decodeWord w = .ok i) ↔
    (w &&& 0xFFFFFFFF#32 = 0x00#32 ∨ w &&& 0xFFFFFFFF#32 = 0x01#32 ∨ w &&& 0xFFFFCFFF#32 = 0x02#32 ∨
     w &&& 0xFFFFEFFF#32 = 0x10#32 ∨ w &&& 0xFFFFEFFF#32 = 0x11#32 ∨ w &&& 0xFFFFF0FF#32 = 0x20#32 ∨
     w &&& 0xFFFFF0FF#32 = 0x21#32 ∨ w &&& 0xFFFFF0FF#32 = 0x22#32 ∨ w &&& 0xFFFFF0FF#32 = 0x23#32)

/-- Words written out from R68 and R88 decode to the instructions they stand for. -/
def Obligations.WrittenWordsDecode : Prop :=
  decodeTableWord 32 0x00000000 = some .nop ∧ decodeTableWord 32 0x00000001 = some .cvtF32 ∧
  decodeTableWord 32 0x00003002 = some (.hdrWrite true true) ∧ decodeTableWord 32 0x00001010 = some (.encFr true) ∧
  decodeTableWord 32 0x00001011 = some (.encAd true) ∧ decodeTableWord 32 0x00000F23 = some (.decClose 15) ∧
  decodeTableWord 8 0x3F = some (.adSmall 63) ∧ decodeTableWord 8 0x82 = some (.adFull 2)

/-! ### A step -/

/-- R25, R176: with no read in progress, a step whose host action is an aligned CMD write of a legal word runs the word's
instruction, in the state that holds the word in CMD and has taken the action out of the inbox (log 2). R70, R151: a word
that is not legal raises ILLEGAL_CMD and changes nothing but STATUS, and CMD, which holds it. -/
def Obligations.StepRunsTheCommandWritten : Prop :=
  ∀ (s : State) (w : Word) (rest : List HostAction), s.reading = none → s.inbox = .regWrite 4 0x04#8 w :: rest →
    (∀ i, decodeWord w = .ok i → step s = exec i { s with inbox := rest, cmd := w }) ∧
    (∀ e, decodeWord w = .error e → step s = .next { s with inbox := rest, cmd := w, err := .illegalCmd })

/-- R57, R92 (log 3): while a DEC_READ in progress waits for a run header, a step runs the instruction of the byte at the
context's cursor. -/
def Obligations.StepRunsTheRunHeaderAtCursor : Prop :=
  ∀ (s : State) (job : ReadJob) (cx : Ctx), s.reading = some job → s.ctxs[job.ctx]? = some cx → cx.lossy = false →
    cx.runLeft = 0 → job.written < job.k → cx.stale = false → cx.cursor.toNat + 1 ≤ cx.len.toNat →
    step s = exec (decodeRunHeader (readByte s.mem (cx.base.toNat + cx.cursor.toNat))) s

/-- R76: a command line with four operands is five steps: the four ARG writes, then the CMD write, which runs the
command with those operands. -/
def Obligations.CommandLineRunsItsCommand : Prop :=
  ∀ (s : State) (i : Instr) (a b c d : Word) (rest : List HostAction), i.isCommand = true → i.wf = true →
    s.reading = none → s.inbox = commandLine i [a, b, c, d] ++ rest →
    Sys2Proof.core.run 5 s =
      exec i { s with arg0 := a, arg1 := b, arg2 := c, arg3 := d, cmd := BitVec.ofNat 32 (encode i).bits, inbox := rest }

/-! ### The register window -/

/-- R20, R27: an ARG register takes any 32-bit value and reads back exactly that value, the other registers unchanged; and
no instruction writes one, nor CMD (R25), nor what is not the block's: the platform and the host's actions (log 2,
log 4). -/
def Obligations.ArgRegistersHoldWhatTheHostWrote : Prop :=
  (∀ (s : State) (v : Word) (off : Byte) (rest : List HostAction), s.reading = none →
    off ∈ [0x0C#8, 0x10#8, 0x14#8, 0x18#8] → s.inbox = [.regWrite 4 off v, .regRead 4 off] ++ rest →
    ∃ t u, step s = .next t ∧ step t = .next u ∧ u.hostData = v ∧
      ∀ o : Nat, o ≠ off.toNat → u.readWindow o = s.readWindow o) ∧
  (∀ (i : Instr) (s t : State), exec i s = .next t →
    t.arg0 = s.arg0 ∧ t.arg1 = s.arg1 ∧ t.arg2 = s.arg2 ∧ t.arg3 = s.arg3 ∧ t.cmd = s.cmd ∧
      t.platform = s.platform ∧ t.inbox = s.inbox ∧ t.hostData = s.hostData)

/-- R23, R176: an aligned 32-bit read returns the register at its offset, and an ordinary memory read its byte; neither
changes anything else. R31, R32: a read of a reserved offset returns 0; a write of one, or of a read-only register, is
ignored and does not set STATUS; an access of another width than 32 bits, or a misaligned one, is refused. That what
a read returns stands in hostData, and that a memory read is of one byte, is the model's choice (log 2); the values of ID, STATUS and CTX_STATE are those of the two statements that follow. -/
def Obligations.WindowAccessRules : Prop :=
  (∀ (s : State) (off : Byte) (v : Word) (rest : List HostAction), s.reading = none → s.inbox = .regRead 4 off :: rest →
    (off = 0x00#8 ∧ v = s.readWindow 0x00) ∨ (off = 0x04#8 ∧ v = s.cmd) ∨ (off = 0x08#8 ∧ v = s.readWindow 0x08) ∨
    (off = 0x0C#8 ∧ v = s.arg0) ∨ (off = 0x10#8 ∧ v = s.arg1) ∨ (off = 0x14#8 ∧ v = s.arg2) ∨
    (off = 0x18#8 ∧ v = s.arg3) ∨ (off = 0x1C#8 ∧ v = s.res0) ∨ (off = 0x20#8 ∧ v = s.res1) ∨
    (off = 0x24#8 ∧ v = s.res2) ∨ (off = 0x28#8 ∧ v = s.res3) ∨ (off = 0x2C#8 ∧ v = s.diagSmall) ∨
    (off = 0x30#8 ∧ v = s.diagMedium) ∨ (off = 0x34#8 ∧ v = s.diagFull) ∨ (off = 0x38#8 ∧ v = s.diagRuns) ∨
    (off = 0x3C#8 ∧ v = s.diagSat) ∨ (off = 0x40#8 ∧ v = s.readWindow 0x40) →
    step s = .next { s with inbox := rest, hostData := v }) ∧
  (∀ (s : State) (addr : Word) (rest : List HostAction), s.reading = none → s.inbox = .memRead addr :: rest →
    ∃ t, step s = .next t ∧ t = { s with inbox := rest, hostData := t.hostData } ∧
      t.hostData.toNat = (readByte s.mem addr.toNat).toNat) ∧
  (∀ (s : State) (off : Byte) (rest : List HostAction), s.reading = none → off.toNat % 4 = 0 → 0x44 ≤ off.toNat →
    s.inbox = .regRead 4 off :: rest → step s = .next { s with inbox := rest, hostData := 0 }) ∧
  (∀ (s : State) (v : Word) (off : Byte) (rest : List HostAction), s.reading = none → off.toNat % 4 = 0 →
    off ∉ [0x04#8, 0x0C#8, 0x10#8, 0x14#8, 0x18#8] → s.inbox = .regWrite 4 off v :: rest →
    step s = .next { s with inbox := rest }) ∧
  (∀ (s : State) (width : Nat) (off : Byte) (v : Word) (rest : List HostAction), s.reading = none →
    width ≠ 4 ∨ off.toNat % 4 ≠ 0 →
    (s.inbox = .regRead width off :: rest → step s = .refused .windowAccess) ∧
    (s.inbox = .regWrite width off v :: rest → step s = .refused .windowAccess))

/-- R24: the fields of ID, for every number of contexts the block may have. R26, R149: STATUS holds the code of the last
outcome in bits 7:0, each outcome its own, and bits 31:8 read 0. -/
def Obligations.IdAndStatusFields : Prop :=
  (∀ s : State, 1 ≤ s.numCtx → s.numCtx ≤ 8 →
    (s.readWindow 0x00).toNat / 2 ^ 16 = 0x4641 ∧ (s.readWindow 0x00).toNat / 2 ^ 8 % 2 ^ 8 = s.numCtx ∧
      (s.readWindow 0x00).toNat % 2 ^ 8 = 0x01 ∧ (s.numCtx = 1 → s.readWindow 0x00 = 0x46410101#32)) ∧
  (∀ s : State,
    (s.err = .ok ∧ s.readWindow 0x08 = 0x00#32) ∨ (s.err = .illegalCmd ∧ s.readWindow 0x08 = 0x01#32) ∨
    (s.err = .badCtx ∧ s.readWindow 0x08 = 0x02#32) ∨ (s.err = .ctxState ∧ s.readWindow 0x08 = 0x03#32) ∨
    (s.err = .faulted ∧ s.readWindow 0x08 = 0x04#32) ∨ (s.err = .unsupported ∧ s.readWindow 0x08 = 0x05#32) ∨
    (s.err = .region ∧ s.readWindow 0x08 = 0x06#32) ∨ (s.err = .overlap ∧ s.readWindow 0x08 = 0x07#32) ∨
    (s.err = .capacity ∧ s.readWindow 0x08 = 0x08#32) ∨ (s.err = .truncated ∧ s.readWindow 0x08 = 0x09#32) ∨
    (s.err = .malformed ∧ s.readWindow 0x08 = 0x0A#32))

/-- R30: CTX_STATE holds the state codes of the contexts, and 0 above them: 0 CLOSED, 1 IDLE, 2 READING, 3 EXHAUSTED,
4 FAULTED, and no other code. -/
def Obligations.CtxStateHoldsTheCodes : Prop :=
  ∀ s : State, s.numCtx ≤ 8 → ∀ i, i < 8 →
    (∀ cx, s.ctxs[i]? = some cx →
      (cx.st = .closed ∧ (s.readWindow 0x40).toNat / 16 ^ i % 16 = 0) ∨
      (cx.st = .idle ∧ (s.readWindow 0x40).toNat / 16 ^ i % 16 = 1) ∨
      (cx.st = .reading ∧ (s.readWindow 0x40).toNat / 16 ^ i % 16 = 2) ∨
      (cx.st = .exhausted ∧ (s.readWindow 0x40).toNat / 16 ^ i % 16 = 3) ∨
      (cx.st = .faulted ∧ (s.readWindow 0x40).toNat / 16 ^ i % 16 = 4)) ∧
    (s.numCtx ≤ i → (s.readWindow 0x40).toNat / 16 ^ i % 16 = 0)

/-! ### Reset -/

/-- R23, R41, R163: after reset every register holds the value of the reset column, and every context is CLOSED with
every other field 0, scratch included: C is held as the flag `stereo`, runType 0 is Small (log 9), and `stale` is the
model's own (log 7). NUM_CTX = 1 is the spec's default (R7). -/
def Obligations.ResetValues : Prop :=
  (∀ o : Nat, o ≠ 0 → State.reset.readWindow o = 0) ∧ State.reset.readWindow 0 = 0x46410101#32 ∧
  State.reset.ctxs = [Ctx.closed] ∧
  Ctx.closed = { st := .closed, base := 0, len := 0, frames := 0, rate := 0, stereo := false, lossy := false, total := 0,
                 remaining := 0, pos := 0, cursor := 0, unit := 0, key := ⟨0, 0⟩, n := 0, acc := ⟨0, 0⟩,
                 runType := .small, runLeft := 0,
                 ovf := [⟨0, 0⟩, ⟨0, 0⟩, ⟨0, 0⟩, ⟨0, 0⟩, ⟨0, 0⟩, ⟨0, 0⟩, ⟨0, 0⟩, ⟨0, 0⟩], ovfLen := 0, ovfOff := 0,
                 stale := false }

/-- R163: the platform's reset gives every register its reset value, closes every context and leaves memory alone. -/
def Obligations.BlockResetKeepsMemory : Prop :=
  ∀ (s : State) (rest : List HostAction), s.reading = none → s.inbox = .reset :: rest →
    ∃ t, step s = .next t ∧ t.mem = s.mem ∧ t.numCtx = s.numCtx ∧ (∀ cx ∈ t.ctxs, cx = Ctx.closed) ∧
      (∀ o : Nat, o ≠ 0 → t.readWindow o = 0) ∧ t.readWindow 0 = s.readWindow 0

/-- R166: a reset during a command gives the block its reset state, ID and the number of contexts as they were (R24, R33),
and changes no byte outside the command's destination
region. That a command which fails its checks leaves every byte alone is the model's reading (log 10). -/
def Obligations.ResetDuringACommand : Prop :=
  ∀ (s : State) (w : Word) (rest : List HostAction), s.reading = none → s.inbox = .resetDuring w :: rest →
    ∃ t, step s = .next t ∧ t.numCtx = s.numCtx ∧ t.readWindow 0 = s.readWindow 0 ∧
      (∀ cx ∈ t.ctxs, cx = Ctx.closed) ∧ (∀ o : Nat, o ≠ 0 → t.readWindow o = 0) ∧
      (∀ e, decodeWord w = .error e → t.mem = s.mem) ∧
      (∀ i, decodeWord w = .ok i → ∀ a : Nat,
        a < (destRegion i { s with inbox := rest }).base ∨
          (destRegion i { s with inbox := rest }).base + (destRegion i { s with inbox := rest }).size ≤ a →
        readByte t.mem a = readByte s.mem a)

/-! ### Regions -/

/-- R45, R46, R47: a region is valid when it is empty, or lies in the address space and is admitted; two regions overlap
exactly when they share a byte; no admitted region, as the model holds `Admit` (log 4), shares a byte with the register
window. -/
def Obligations.RegionsShareBytesOrNot : Prop :=
  (∀ (s : State) (a n : Nat), s.valid ⟨a, n⟩ = true ↔ n = 0 ∨ (a + n ≤ 2 ^ 32 ∧ s.platform.admits ⟨a, n⟩ = true)) ∧
  (∀ r q : Region, r.overlaps q = true ↔
    ∃ a, (r.base ≤ a ∧ a < r.base + r.size) ∧ (q.base ≤ a ∧ a < q.base + q.size)) ∧
  (∀ (p : Platform) (r : Region) (a : Nat), p.admits r = true → r.base ≤ a → a < r.base + r.size →
    ¬ (p.regBase ≤ a ∧ a < p.regBase + 256))

/-- R48: a value of n bytes is stored least significant byte first and reads back the same, and no other byte changes. -/
def Obligations.StoredValueReadsBackLittleEndian : Prop :=
  ∀ (m : List Host.Cell) (a n v : Nat), v < 256 ^ n →
    readNat (writeBytes m a (leBytes n v)) a n = v ∧
    (∀ i, i < n → (readByte (writeBytes m a (leBytes n v)) (a + i)).toNat = v / 256 ^ i % 256) ∧
    (∀ b, b < a ∨ a + n ≤ b → readByte (writeBytes m a (leBytes n v)) b = readByte m b)

/-! ### NOP and HDR_WRITE -/

/-- R143: NOP sets STATUS.ERR to OK and changes nothing else. -/
def Obligations.NopOnlyClearsStatus : Prop :=
  ∀ s : State, exec .nop s = .next { s with err := .ok }

/-- R142: HDR_WRITE completes when its region is valid and meets no open stream: the ten preamble bytes at ARG0, RES0 = 10
and STATUS OK, and nothing else changes. -/
def Obligations.HdrWriteWritesThePreamble : Prop :=
  ∀ (stereo lossy : Bool) (s : State), s.valid ⟨s.arg0.toNat, 10⟩ = true →
    s.overlapsOpen ⟨s.arg0.toNat, 10⟩ = false →
    ∃ t, exec (.hdrWrite stereo lossy) s = .next t ∧ t = { s with err := .ok, res0 := 10, mem := t.mem } ∧
      readNat t.mem s.arg0.toNat 4 = s.arg1.toNat ∧ readNat t.mem (s.arg0.toNat + 4) 4 = s.arg2.toNat ∧
      readByte t.mem (s.arg0.toNat + 8) = (if stereo then 1#8 else 0#8) ∧
      readByte t.mem (s.arg0.toNat + 9) = (if lossy then 1#8 else 0#8) ∧
      ∀ a, a < s.arg0.toNat ∨ s.arg0.toNat + 10 ≤ a → readByte t.mem a = readByte s.mem a

/-! ### CVT_F32 -/

/-- R110: CVT_F32 completes when both regions are valid, the destination is the source or disjoint from it, and no open
stream is met: sample i is the conversion of value i as it was before the command, in place too (R53); RES0 = N; nothing
else changes. -/
def Obligations.CvtConvertsEverySample : Prop :=
  ∀ s : State, s.valid ⟨s.arg0.toNat, 4 * s.arg2.toNat⟩ = true → s.valid ⟨s.arg1.toNat, 2 * s.arg2.toNat⟩ = true →
    s.arg1 = s.arg0 ∨
      Region.overlaps ⟨s.arg0.toNat, 4 * s.arg2.toNat⟩ ⟨s.arg1.toNat, 2 * s.arg2.toNat⟩ = false →
    s.overlapsOpen ⟨s.arg1.toNat, 2 * s.arg2.toNat⟩ = false →
    ∃ t, exec .cvtF32 s = .next t ∧ t = { s with err := .ok, res0 := s.arg2, mem := t.mem } ∧
      (∀ i, i < s.arg2.toNat → readSample t.mem (s.arg1.toNat + 2 * i) =
        f32ToI16 (BitVec.ofNat 32 (readNat s.mem (s.arg0.toNat + 4 * i) 4))) ∧
      ∀ a, a < s.arg1.toNat ∨ s.arg1.toNat + 2 * s.arg2.toNat ≤ a → readByte t.mem a = readByte s.mem a

/-- R110, R142: CVT_F32 raises REGION for the source, then for the destination, then OVERLAP; HDR_WRITE raises REGION, then
OVERLAP; each changes nothing but STATUS. -/
def Obligations.CvtAndHdrWriteTurnedAway : Prop :=
  ∀ (stereo lossy : Bool) (s : State),
    (s.valid ⟨s.arg0.toNat, 4 * s.arg2.toNat⟩ = false → exec .cvtF32 s = .next { s with err := .region }) ∧
    (s.valid ⟨s.arg0.toNat, 4 * s.arg2.toNat⟩ = true → s.valid ⟨s.arg1.toNat, 2 * s.arg2.toNat⟩ = false →
      exec .cvtF32 s = .next { s with err := .region }) ∧
    (s.valid ⟨s.arg0.toNat, 4 * s.arg2.toNat⟩ = true → s.valid ⟨s.arg1.toNat, 2 * s.arg2.toNat⟩ = true →
      (s.arg1 ≠ s.arg0 ∧
        Region.overlaps ⟨s.arg0.toNat, 4 * s.arg2.toNat⟩ ⟨s.arg1.toNat, 2 * s.arg2.toNat⟩ = true) ∨
      s.overlapsOpen ⟨s.arg1.toNat, 2 * s.arg2.toNat⟩ = true →
      exec .cvtF32 s = .next { s with err := .overlap }) ∧
    (s.valid ⟨s.arg0.toNat, 10⟩ = false → exec (.hdrWrite stereo lossy) s = .next { s with err := .region }) ∧
    (s.valid ⟨s.arg0.toNat, 10⟩ = true → s.overlapsOpen ⟨s.arg0.toNat, 10⟩ = true →
      exec (.hdrWrite stereo lossy) s = .next { s with err := .overlap })

/-- R108, R109 (binary32 is general knowledge, log 12): the value of a finite u is ±sig·2^(scale - 150), and its result is
the product with 32766, rounded to 24 significant bits (to the nearest, ties to even), truncated, and saturated. NaN gives
0, the infinities and every finite value from ±2.0 on saturate, both zeros and every subnormal give 0, and for a value in
[-1, 1] the result lies in -32766..32766, with the sign of the value; ±1.0 give ±32766, and 0x3F7FFFFF gives 32765. -/
def Obligations.CvtSpecialValues : Prop :=
  (∀ (u : Word) (sig scale p : Nat), (u.toNat / 2 ^ 23) % 2 ^ 8 ≠ 255 →
    sig = (if (u.toNat / 2 ^ 23) % 2 ^ 8 = 0 then u.toNat % 2 ^ 23 else u.toNat % 2 ^ 23 + 2 ^ 23) →
    scale = max ((u.toNat / 2 ^ 23) % 2 ^ 8) 1 → p = sig * 32766 →
    ∃ q e : Nat, ((p < 2 ^ 24 ∧ e = 0) ∨ (2 ^ (e + 23) ≤ p ∧ p < 2 ^ (e + 24))) ∧
      2 * (q * 2 ^ e - p) ≤ 2 ^ e ∧ 2 * (p - q * 2 ^ e) ≤ 2 ^ e ∧
      (2 * (q * 2 ^ e - p) = 2 ^ e ∨ 2 * (p - q * 2 ^ e) = 2 ^ e → q % 2 = 0) ∧
      (u.toNat < 2 ^ 31 → (f32ToI16 u).toInt = min (((q * 2 ^ e * 2 ^ scale / 2 ^ 150 : Nat) : Int)) 32767) ∧
      (2 ^ 31 ≤ u.toNat → (f32ToI16 u).toInt = max (-((q * 2 ^ e * 2 ^ scale / 2 ^ 150 : Nat) : Int)) (-32768))) ∧
  (f32ToI16 0x3F800000#32).toInt = 32766 ∧ (f32ToI16 0xBF800000#32).toInt = -32766 ∧
  (f32ToI16 0x3F7FFFFF#32).toInt = 32765 ∧
  ∀ u : Word,
    (0x40000000 ≤ u.toNat → u.toNat ≤ 0x7F800000 → (f32ToI16 u).toInt = 32767) ∧
    (0xC0000000 ≤ u.toNat → u.toNat ≤ 0xFF800000 → (f32ToI16 u).toInt = -32768) ∧
    (f32Exp u = 255 → f32Frac u ≠ 0 → f32ToI16 u = 0) ∧
    (u = 0x7F800000#32 → (f32ToI16 u).toInt = 32767) ∧ (u = 0xFF800000#32 → (f32ToI16 u).toInt = -32768) ∧
    (f32Exp u = 0 → f32ToI16 u = 0) ∧
    (u.toNat ≤ 0x3F800000 → 0 ≤ (f32ToI16 u).toInt ∧ (f32ToI16 u).toInt ≤ 32766) ∧
    (0x80000000 ≤ u.toNat → u.toNat ≤ 0xBF800000 → -32766 ≤ (f32ToI16 u).toInt ∧ (f32ToI16 u).toInt ≤ 0)

/-- R108: the rounding of the product is to the nearest, and a tie goes to the even neighbour, which R108 marks as general
knowledge (log 12). -/
def Obligations.RoundingIsNearestEven : Prop :=
  ∀ n k : Nat,
    2 * (roundNearestEven n k * 2 ^ k - n) ≤ 2 ^ k ∧ 2 * (n - roundNearestEven n k * 2 ^ k) ≤ 2 ^ k ∧
    (2 * (roundNearestEven n k * 2 ^ k - n) = 2 ^ k ∨ 2 * (n - roundNearestEven n k * 2 ^ k) = 2 ^ k →
      roundNearestEven n k % 2 = 0)

/-! ### The Fractional-Residual codec -/

/-- R94: the step is max(|R - L| div 127, 1), at most 516; the midpoint is (L + R) / 2 truncated toward zero, and an
s16 value. -/
def Obligations.FrStepAndMidpoint : Prop :=
  ∀ l r : Sample,
    1 ≤ frStep l.toInt r.toInt ∧ frStep l.toInt r.toInt ≤ 516 ∧
    (127 ≤ (r.toInt - l.toInt).natAbs →
      frStep l.toInt r.toInt * 127 ≤ (r.toInt - l.toInt).natAbs ∧
      (r.toInt - l.toInt).natAbs < (frStep l.toInt r.toInt + 1) * 127) ∧
    ((r.toInt - l.toInt).natAbs < 127 → frStep l.toInt r.toInt = 1) ∧
    -32768 ≤ frMid l.toInt r.toInt ∧ frMid l.toInt r.toInt ≤ 32767 ∧
    2 * (frMid l.toInt r.toInt).natAbs ≤ (l.toInt + r.toInt).natAbs ∧
    (l.toInt + r.toInt).natAbs ≤ 2 * (frMid l.toInt r.toInt).natAbs + 1 ∧
    0 ≤ frMid l.toInt r.toInt * (l.toInt + r.toInt)

/-- R98: the error of a reconstructed sample: |r| mod step, less than the step, for an unclamped sample; |r| - 127·step,
at least the step, for a clamped one, whose magnitude is 127. -/
def Obligations.FrErrorBound : Prop :=
  ∀ x l r : Sample,
    ((x.toInt - frMid l.toInt r.toInt).natAbs < 128 * frStep l.toInt r.toInt →
      (frQuant x.toInt l.toInt r.toInt).toNat % 128 =
        (x.toInt - frMid l.toInt r.toInt).natAbs / frStep l.toInt r.toInt ∧
      ((frRecon (frQuant x.toInt l.toInt r.toInt) l.toInt r.toInt).toInt - x.toInt).natAbs =
        (x.toInt - frMid l.toInt r.toInt).natAbs % frStep l.toInt r.toInt ∧
      ((frRecon (frQuant x.toInt l.toInt r.toInt) l.toInt r.toInt).toInt - x.toInt).natAbs <
        frStep l.toInt r.toInt) ∧
    (128 * frStep l.toInt r.toInt ≤ (x.toInt - frMid l.toInt r.toInt).natAbs →
      (frQuant x.toInt l.toInt r.toInt).toNat % 128 = 127 ∧
      ((frRecon (frQuant x.toInt l.toInt r.toInt) l.toInt r.toInt).toInt - x.toInt).natAbs =
        (x.toInt - frMid l.toInt r.toInt).natAbs - 127 * frStep l.toInt r.toInt ∧
      frStep l.toInt r.toInt ≤
        ((frRecon (frQuant x.toInt l.toInt r.toInt) l.toInt r.toInt).toInt - x.toInt).natAbs)

/-- R87, R96: every residual byte, those no encoder makes included, reconstructs to mid + step·v, wrapped to 16 bits, where
v has its sign in bit 7 and its magnitude below it. R95, R99: the byte the encoder makes has the sign of r in bit 7, even
with magnitude 0, and the clamped quotient below it; its reconstruction does not wrap and lies between the midpoint and the
sample. -/
def Obligations.FrResidualByte : Prop :=
  (∀ (b : Byte) (l r : Sample),
    frRecon b l.toInt r.toInt = BitVec.ofInt 16 (frMid l.toInt r.toInt + (frStep l.toInt r.toInt : Int) *
      (if b.toNat < 128 then (b.toNat : Int) else -((b.toNat : Int) - 128)))) ∧
  ∀ x l r : Sample,
    (128 ≤ (frQuant x.toInt l.toInt r.toInt).toNat ↔ x.toInt < frMid l.toInt r.toInt) ∧
    (frQuant x.toInt l.toInt r.toInt).toNat % 128 =
      min ((x.toInt - frMid l.toInt r.toInt).natAbs / frStep l.toInt r.toInt) 127 ∧
    (frMid l.toInt r.toInt ≤ x.toInt →
      frMid l.toInt r.toInt ≤ (frRecon (frQuant x.toInt l.toInt r.toInt) l.toInt r.toInt).toInt ∧
      (frRecon (frQuant x.toInt l.toInt r.toInt) l.toInt r.toInt).toInt ≤ x.toInt) ∧
    (x.toInt ≤ frMid l.toInt r.toInt →
      x.toInt ≤ (frRecon (frQuant x.toInt l.toInt r.toInt) l.toInt r.toInt).toInt ∧
      (frRecon (frQuant x.toInt l.toInt r.toInt) l.toInt r.toInt).toInt ≤ frMid l.toInt r.toInt)

/-- R81, R84, R101, R104: ENC_FR completes when every check passes: B = 5·C·n + 2·C bytes at ARG1, with the keys and the
residuals at the offsets of R81 and R84, of the source as it was before the command, padded with its last frame; RES0 = B
and RES1 = n; nothing else changes. -/
def Obligations.EncFrWritesTheBody : Prop :=
  ∀ (stereo : Bool) (s : State) (c n b : Nat) (x : Nat → Nat → Sample),
    c = (if stereo then 2 else 1) → n = (s.arg2.toNat - 1 + 3) / 4 → b = 5 * c * n + 2 * c →
    (∀ f ch, x f ch = readSample s.mem (s.arg0.toNat + 2 * (c * min f (s.arg2.toNat - 1) + ch))) →
    s.arg2 ≠ 0 → s.valid ⟨s.arg0.toNat, 2 * c * s.arg2.toNat⟩ = true → b ≤ s.arg3.toNat →
    s.valid ⟨s.arg1.toNat, b⟩ = true →
    s.arg1 = s.arg0 ∨ Region.overlaps ⟨s.arg0.toNat, 2 * c * s.arg2.toNat⟩ ⟨s.arg1.toNat, b⟩ = false →
    s.overlapsOpen ⟨s.arg1.toNat, b⟩ = false →
    ∃ t, exec (.encFr stereo) s = .next t ∧
      t = { s with err := .ok, res0 := BitVec.ofNat 32 b, res1 := BitVec.ofNat 32 n, mem := t.mem } ∧
      (∀ k ch, k ≤ n → ch < c → readSample t.mem (s.arg1.toNat + 5 * c * k + 2 * ch) = x (4 * k) ch) ∧
      (∀ k j ch, k < n → 1 ≤ j → j ≤ 3 → ch < c →
        readByte t.mem (s.arg1.toNat + 5 * c * k + 2 * c + (c * (j - 1) + ch)) =
          frQuant (x (4 * k + j) ch).toInt (x (4 * k) ch).toInt (x (4 * k + 4) ch).toInt) ∧
      ∀ a, a < s.arg1.toNat ∨ s.arg1.toNat + b ≤ a → readByte t.mem a = readByte s.mem a

/-- R104: ENC_FR raises UNSUPPORTED, REGION (source), CAPACITY, REGION (destination), OVERLAP, in that order, and changes
nothing but STATUS. -/
def Obligations.EncFrTurnedAway : Prop :=
  ∀ (stereo : Bool) (s : State) (c n b : Nat),
    c = (if stereo then 2 else 1) → n = (s.arg2.toNat - 1 + 3) / 4 → b = 5 * c * n + 2 * c →
    (s.arg2 = 0 → exec (.encFr stereo) s = .next { s with err := .unsupported }) ∧
    (s.arg2 ≠ 0 → s.valid ⟨s.arg0.toNat, 2 * c * s.arg2.toNat⟩ = false →
      exec (.encFr stereo) s = .next { s with err := .region }) ∧
    (s.arg2 ≠ 0 → s.valid ⟨s.arg0.toNat, 2 * c * s.arg2.toNat⟩ = true →
      (s.arg3.toNat < b → exec (.encFr stereo) s = .next { s with err := .capacity }) ∧
      (b ≤ s.arg3.toNat → s.valid ⟨s.arg1.toNat, b⟩ = false →
        exec (.encFr stereo) s = .next { s with err := .region }) ∧
      (b ≤ s.arg3.toNat → s.valid ⟨s.arg1.toNat, b⟩ = true →
        (s.arg1 ≠ s.arg0 ∧ Region.overlaps ⟨s.arg0.toNat, 2 * c * s.arg2.toNat⟩ ⟨s.arg1.toNat, b⟩ = true) ∨
          s.overlapsOpen ⟨s.arg1.toNat, b⟩ = true →
        exec (.encFr stereo) s = .next { s with err := .overlap }))

/-- R107: the decoded sequence of an FR body: every frame 4c equals the source frame, and every interior frame is the
reconstruction of its residual byte between the keys the encoder used. -/
def Obligations.FrBodyDecodes : Prop :=
  ∀ (m : List Host.Cell) (base len : Word) (p : Preamble) (x : Nat → Frame),
    p.lossy = true → p.frames ≠ 0 → (p.stereo = false → ∀ f, (x f).ch1 = 0) →
    base.toNat + len.toNat ≤ 2 ^ 32 →
    10 + (frBody p.stereo (frChunks p.frames.toNat) fun f => x (min f (p.frames.toNat - 1))).length ≤ len.toNat →
    readBytes m (base.toNat + 10)
        (frBody p.stereo (frChunks p.frames.toNat) fun f => x (min f (p.frames.toNat - 1))).length =
      (frBody p.stereo (frChunks p.frames.toNat) fun f => x (min f (p.frames.toNat - 1))) →
    ∃ fs cx', readFrames m (openedCtx m base len p) p.frames.toNat = .ok (fs, cx') ∧ fs.length = p.frames.toNat ∧
      (∀ c, 4 * c < p.frames.toNat → fs[4 * c]? = some (x (4 * c))) ∧
      (∀ c j, 1 ≤ j → j ≤ 3 → 4 * c + j < p.frames.toNat → ∃ f, fs[4 * c + j]? = some f ∧
        ∀ ch, ch < channels p.stereo → f.get ch =
          frRecon (frQuant ((x (4 * c + j)).get ch).toInt ((x (4 * c)).get ch).toInt
              ((x (min (4 * c + 4) (p.frames.toNat - 1))).get ch).toInt)
            ((x (4 * c)).get ch).toInt ((x (min (4 * c + 4) (p.frames.toNat - 1))).get ch).toInt)

/-! ### The Adaptive-Delta codec -/

/-- R115: the first chunk is Full; another is Small, Medium or Full by its largest absolute delta. -/
def Obligations.AdChunkTypeByLargestDelta : Prop :=
  ∀ ds : List Int,
    adClassify true ds = .full ∧
    (adClassify false ds = .small ↔ ∀ d ∈ ds, d.natAbs ≤ 127) ∧
    (adClassify false ds = .medium ↔ (∀ d ∈ ds, d.natAbs ≤ 2047) ∧ ∃ d ∈ ds, 127 < d.natAbs) ∧
    (adClassify false ds = .full ↔ ∃ d ∈ ds, 2047 < d.natAbs)

/-- R91: the three bytes of a Medium pair, and what a reader recovers from them. -/
def Obligations.MediumPairRoundTrip : Prop :=
  ∀ a b : Int, -2048 ≤ a → a ≤ 2047 → -2048 ≤ b → b ≤ 2047 →
    (leBytes 3 (mediumWord a b)).length = 3 ∧
    leNat (leBytes 3 (mediumWord a b)) % 4096 = (a % 4096).toNat ∧
    leNat (leBytes 3 (mediumWord a b)) / 4096 = (b % 4096).toNat ∧
    sext12 (leNat (leBytes 3 (mediumWord a b))) = a ∧ sext12 (leNat (leBytes 3 (mediumWord a b)) / 4096) = b

/-- R117: the runs hold the chunks in order; a run has 1 to 64 chunks, all of its type; a run is followed by another of
its type only when it holds 64; and a run is written as its header byte type·64 + (length - 1), then the payloads of its
chunks in order. -/
def Obligations.RunsAreGreedy : Prop :=
  ∀ cs : List AdChunk,
    (adGroup cs).flatMap (fun r => r.payloads.map fun p => (⟨r.type, p⟩ : AdChunk)) = cs ∧
    (∀ r ∈ adGroup cs, 1 ≤ r.payloads.length ∧ r.payloads.length ≤ 64 ∧
      ∃ h, adRunBytes r = h :: r.payloads.flatten ∧ h.toNat = r.type.code * 64 + (r.payloads.length - 1)) ∧
    (∀ i r q, (adGroup cs)[i]? = some r → (adGroup cs)[i + 1]? = some q → r.type = q.type → r.payloads.length = 64)

/-- R93, R118: the size of an AD body, with at least one run for every 64 chunks; no run is longer than 64, and the first
header byte of a non-empty body is 0x80 to 0xBF. -/
def Obligations.AdBodySizeAndFirstHeader : Prop :=
  ∀ (stereo : Bool) (s : State),
    (encAdBody stereo s).length = (encAdRuns stereo s).length + channels stereo *
      (8 * adCount .small (encAdChunks stereo s) + 12 * adCount .medium (encAdChunks stereo s) +
        16 * adCount .full (encAdChunks stereo s)) ∧
    (encAdChunks stereo s).length = s.arg2.toNat / 8 ∧
    s.arg2.toNat / 8 ≤ 64 * (encAdRuns stereo s).length ∧
    (∀ r ∈ encAdRuns stereo s, r.payloads.length ≤ 64) ∧
    (s.arg2.toNat / 8 = 0 → encAdBody stereo s = []) ∧
    (8 ≤ s.arg2.toNat → ∃ h, (encAdBody stereo s)[0]? = some h ∧ 0x80 ≤ h.toNat ∧ h.toNat ≤ 0xBF)

/-- R119, R159: ENC_AD completes when every check passes: the body at ARG1, RES0 = B, RES1 = m = F div 8, the five
counters, whose chunk counts add up to m, and nothing else changes. The body is the runs (R117) of m chunks of the source
samples x (R77, R111): chunk 0 is Full, another has the type of R115 for its deltas d (R114), and its payload is that of
R116: the low byte of each delta, the 24-bit word of each pair, or the samples, low byte first. -/
def Obligations.EncAdWritesTheBody : Prop :=
  ∀ (stereo : Bool) (s : State) (c : Nat) (x : Nat → Nat → Sample) (d : Nat → Nat → Int), s.arg2 ≠ 0 →
    c = (if stereo then 2 else 1) → (∀ f ch, x f ch = readSample s.mem (s.arg0.toNat + 2 * (c * f + ch))) →
    (∀ k i, d k i = (x (8 * k + i / c) (i % c)).toInt - (x (8 * k + i / c - 1) (i % c)).toInt) →
    s.valid ⟨s.arg0.toNat, 2 * channels stereo * s.arg2.toNat⟩ = true →
    (encAdBody stereo s).length ≤ s.arg3.toNat → s.valid ⟨s.arg1.toNat, (encAdBody stereo s).length⟩ = true →
    Region.overlaps ⟨s.arg0.toNat, 2 * channels stereo * s.arg2.toNat⟩
      ⟨s.arg1.toNat, (encAdBody stereo s).length⟩ = false →
    s.overlapsOpen ⟨s.arg1.toNat, (encAdBody stereo s).length⟩ = false →
    encAdBody stereo s = (adGroup (encAdChunks stereo s)).flatMap adRunBytes ∧
    (encAdChunks stereo s).length = s.arg2.toNat / 8 ∧
    (∀ k, k < s.arg2.toNat / 8 → ∃ chunk, (encAdChunks stereo s)[k]? = some chunk ∧
      (k = 0 → chunk.type = .full) ∧
      (k ≠ 0 →
        (chunk.type = .small ∧ ∀ i, i < 8 * c → (d k i).natAbs ≤ 127) ∨
        (chunk.type = .medium ∧ (∀ i, i < 8 * c → (d k i).natAbs ≤ 2047) ∧ ∃ i, i < 8 * c ∧ 127 < (d k i).natAbs) ∨
        (chunk.type = .full ∧ ∃ i, i < 8 * c ∧ 2047 < (d k i).natAbs)) ∧
      (chunk.type = .small → chunk.payload.length = 8 * c ∧
        ∀ i, i < 8 * c → chunk.payload[i]? = some (BitVec.ofInt 8 (d k i))) ∧
      (chunk.type = .medium → chunk.payload.length = 12 * c ∧
        ∀ g w, g < 4 * c → w = (d k (2 * g) % 4096).toNat + 4096 * (d k (2 * g + 1) % 4096).toNat →
          chunk.payload[3 * g]? = some (BitVec.ofNat 8 w) ∧
          chunk.payload[3 * g + 1]? = some (BitVec.ofNat 8 (w / 256)) ∧
          chunk.payload[3 * g + 2]? = some (BitVec.ofNat 8 (w / 65536))) ∧
      (chunk.type = .full → chunk.payload.length = 16 * c ∧
        ∀ i, i < 8 * c →
          chunk.payload[2 * i]? = some (BitVec.ofNat 8 (x (8 * k + i / c) (i % c)).toNat) ∧
          chunk.payload[2 * i + 1]? = some (BitVec.ofNat 8 ((x (8 * k + i / c) (i % c)).toNat / 256)))) ∧
    ∃ t, exec (.encAd stereo) s = .next t ∧
      t = { s with
        err := .ok, res0 := BitVec.ofNat 32 (encAdBody stereo s).length, res1 := BitVec.ofNat 32 (s.arg2.toNat / 8),
        diagSmall := t.diagSmall, diagMedium := t.diagMedium, diagFull := t.diagFull, diagRuns := t.diagRuns,
        diagSat := t.diagSat, mem := t.mem } ∧
      t.diagSmall.toNat = adCount .small (encAdChunks stereo s) ∧
      t.diagMedium.toNat = adCount .medium (encAdChunks stereo s) ∧
      t.diagFull.toNat = adCount .full (encAdChunks stereo s) ∧
      t.diagRuns.toNat = (encAdRuns stereo s).length ∧
      t.diagSat.toNat = ((encAdRuns stereo s).filter fun r => decide (r.payloads.length = 64)).length ∧
      t.diagSmall.toNat + t.diagMedium.toNat + t.diagFull.toNat = s.arg2.toNat / 8 ∧
      readBytes t.mem s.arg1.toNat (encAdBody stereo s).length = encAdBody stereo s ∧
      ∀ a, a < s.arg1.toNat ∨ s.arg1.toNat + (encAdBody stereo s).length ≤ a → readByte t.mem a = readByte s.mem a

/-- R119, R54 (b): ENC_AD raises UNSUPPORTED, REGION (source), CAPACITY, REGION (destination), OVERLAP, in that order, in
place included, and changes nothing but STATUS. -/
def Obligations.EncAdTurnedAway : Prop :=
  ∀ (stereo : Bool) (s : State),
    (s.arg2 = 0 → exec (.encAd stereo) s = .next { s with err := .unsupported }) ∧
    (s.arg2 ≠ 0 → s.valid ⟨s.arg0.toNat, 2 * channels stereo * s.arg2.toNat⟩ = false →
      exec (.encAd stereo) s = .next { s with err := .region }) ∧
    (s.arg2 ≠ 0 → s.valid ⟨s.arg0.toNat, 2 * channels stereo * s.arg2.toNat⟩ = true →
      (s.arg3.toNat < (encAdBody stereo s).length → exec (.encAd stereo) s = .next { s with err := .capacity }) ∧
      ((encAdBody stereo s).length ≤ s.arg3.toNat → s.valid ⟨s.arg1.toNat, (encAdBody stereo s).length⟩ = false →
        exec (.encAd stereo) s = .next { s with err := .region }) ∧
      ((encAdBody stereo s).length ≤ s.arg3.toNat → s.valid ⟨s.arg1.toNat, (encAdBody stereo s).length⟩ = true →
        (8 ≤ s.arg2.toNat ∧ s.arg1 = s.arg0) ∨
        Region.overlaps ⟨s.arg0.toNat, 2 * channels stereo * s.arg2.toNat⟩
          ⟨s.arg1.toNat, (encAdBody stereo s).length⟩ = true ∨
        s.overlapsOpen ⟨s.arg1.toNat, (encAdBody stereo s).length⟩ = true →
        exec (.encAd stereo) s = .next { s with err := .overlap }))

/-- R125: losslessness: a stream whose body is the AD encoding of x decodes to exactly the frames x(0..8m-1). -/
def Obligations.AdRoundTripIsLossless : Prop :=
  ∀ (m : List Host.Cell) (base len : Word) (p : Preamble) (x : Nat → Frame),
    p.lossy = false → p.frames ≠ 0 → (p.stereo = false → ∀ f, (x f).ch1 = 0) →
    base.toNat + len.toNat ≤ 2 ^ 32 →
    10 + ((adGroup (adPass1 p.stereo x (p.frames.toNat / 8) 0 Frame.zero)).flatMap adRunBytes).length ≤ len.toNat →
    readBytes m (base.toNat + 10)
        ((adGroup (adPass1 p.stereo x (p.frames.toNat / 8) 0 Frame.zero)).flatMap adRunBytes).length =
      (adGroup (adPass1 p.stereo x (p.frames.toNat / 8) 0 Frame.zero)).flatMap adRunBytes →
    ∃ cx', readFrames m (openedCtx m base len p) (8 * (p.frames.toNat / 8)) =
      .ok ((List.range (8 * (p.frames.toNat / 8))).map x, cx')

/-- R122, R129, R134 (log 3): a Small, Medium or Full run header that the read in progress waits for decodes the first chunk
of its run: its frames are delivered, as many as the read still needs, the context's accumulator, cursor, run and unit
advance, and the read ends when its k frames are written. R90, R91, R116, R123: with i = C·f + ch, a Small payload byte i is
the s8 delta to the sample before, the 12-bit half i of a Medium payload the s12 delta, and the Full payload bytes 2i and
2i + 1 the sample itself, low byte first; the sums wrap at 16 bits. -/
def Obligations.RunHeaderDecodesItsFirstChunk : Prop :=
  ∀ (i : Instr) (ty : AdType) (extra : Nat) (s : State) (job : ReadJob) (cx : Ctx) (c size : Nat) (fs : List Frame),
    (i = .adSmall extra ∧ ty = .small ∧ size = 8 * c) ∨ (i = .adMedium extra ∧ ty = .medium ∧ size = 12 * c) ∨
      (i = .adFull extra ∧ ty = .full ∧ size = 16 * c) →
    c = (if cx.stereo then 2 else 1) → s.reading = some job → s.ctxs[job.ctx]? = some cx → cx.inSpace = true →
    cx.lossy = false → cx.runLeft = 0 → job.written < job.k → cx.stale = false → (cx.unit = 0 → ty = .full) →
    cx.cursor.toNat + 1 + size ≤ cx.len.toNat →
    fs = adFrames s.mem cx.stereo ty (cx.base.toNat + cx.cursor.toNat + 1) cx.acc →
    (∀ (q ch j p : Nat) (f before : Frame), q < 8 → ch < c → j = c * q + ch →
      p = cx.base.toNat + cx.cursor.toNat + 1 → fs[q]? = some f →
      (q = 0 ∧ before = cx.acc) ∨ (∃ r, q = r + 1 ∧ fs[r]? = some before) →
      (ty = .small → f.get ch = wrap16 ((before.get ch).toInt + (readByte s.mem (p + j)).toInt)) ∧
      (ty = .medium → f.get ch = wrap16 ((before.get ch).toInt + (BitVec.ofNat 12
        (((readByte s.mem (p + 3 * (j / 2))).toNat + 256 * (readByte s.mem (p + 3 * (j / 2) + 1)).toNat +
          65536 * (readByte s.mem (p + 3 * (j / 2) + 2)).toNat) / 4096 ^ (j % 2))).toInt)) ∧
      (ty = .full →
        (f.get ch).toNat = (readByte s.mem (p + 2 * j)).toNat + 256 * (readByte s.mem (p + 2 * j + 1)).toNat)) ∧
    ∃ t o, exec i s = .next t ∧ fs.length = 8 ∧ t.ctxs[job.ctx]? = some o ∧
      (∀ j, j ≠ job.ctx → t.ctxs[j]? = s.ctxs[j]?) ∧
      o.acc = fs.getLastD cx.acc ∧ o.cursor.toNat = cx.cursor.toNat + 1 + size ∧ o.runType = ty ∧ o.runLeft = extra ∧
      o.unit = cx.unit + 1 ∧
      (∀ q ch f, q < 8 → job.written + q < job.k → ch < c → fs[q]? = some f →
        readSample t.mem (job.dst + 2 * (c * (job.written + q) + ch)) = f.get ch) ∧
      (∀ a, a < job.dst + 2 * c * job.written ∨ job.dst + 2 * c * (min (job.written + 8) job.k) ≤ a →
        readByte t.mem a = readByte s.mem a) ∧
      (job.written + 8 < job.k →
        o.remaining = cx.remaining ∧ o.pos = cx.pos ∧ o.st = cx.st ∧ o.ovfLen = cx.ovfLen ∧ o.ovfOff = cx.ovfOff ∧
        t = { s with ctxs := t.ctxs, mem := t.mem, reading := some { job with written := job.written + 8 } }) ∧
      (job.k ≤ job.written + 8 →
        o.remaining = cx.remaining - BitVec.ofNat 32 job.k ∧ o.pos = cx.pos + BitVec.ofNat 32 job.k ∧
        o.st = (if o.remaining = 0 then .exhausted else .reading) ∧
        (job.k < job.written + 8 → o.ovfLen = 8 ∧ o.ovfOff = job.k - job.written ∧ o.ovf.take 8 = fs) ∧
        t = { s with
          ctxs := t.ctxs, mem := t.mem, reading := none, err := .ok, res0 := BitVec.ofNat 32 job.k })

/-- R122, R124, R135 (log 3): a run header of the reserved type, and a Small or Medium one that heads the stream, end the
read in progress with MALFORMED, and another one whose payload reaches past the stream region with TRUNCATED: the context
is FAULTED, no RES register changes, and no byte outside the read's destination region changes. -/
def Obligations.MalformedRunHeaderFaultsTheContext : Prop :=
  ∀ (i : Instr) (extra : Nat) (s : State) (job : ReadJob) (cx : Ctx) (c : Nat) (e : ErrCode),
    s.reading = some job → s.ctxs[job.ctx]? = some cx → cx.inSpace = true → cx.lossy = false → cx.runLeft = 0 →
    job.written < job.k → cx.stale = false → c = (if cx.stereo then 2 else 1) →
    (e = .malformed ∧ (i = .adReserved extra ∨ (cx.unit = 0 ∧ (i = .adSmall extra ∨ i = .adMedium extra)))) ∨
    (e = .truncated ∧
      ((i = .adSmall extra ∧ cx.unit ≠ 0 ∧ cx.len.toNat < cx.cursor.toNat + 1 + 8 * c) ∨
       (i = .adMedium extra ∧ cx.unit ≠ 0 ∧ cx.len.toNat < cx.cursor.toNat + 1 + 12 * c) ∨
       (i = .adFull extra ∧ cx.len.toNat < cx.cursor.toNat + 1 + 16 * c))) →
    ∃ t o, exec i s = .next t ∧ t.ctxs[job.ctx]? = some o ∧ o.st = .faulted ∧
      (∀ j, j ≠ job.ctx → t.ctxs[j]? = s.ctxs[j]?) ∧
      t = { s with
        err := e, ctxs := t.ctxs, mem := t.mem, reading := none, freeTick := s.freeTick + 1 } ∧
      ∀ a, a < job.dst ∨ job.dst + 2 * channels cx.stereo * job.k ≤ a → readByte t.mem a = readByte s.mem a

/-- R18, R92 (log 3): the bytes a decoder parses are data: with no read in progress a run header is refused. -/
def Obligations.RunHeaderIsNoCommand : Prop :=
  ∀ (i : Instr) (s : State), i.isCommand = false → s.reading = none → exec i s = .refused .notInRead

/-! ### The streaming decoders -/

/-- R128, R131: DEC_OPEN completes on a closed context when every check passes, and leaves it at the start of its stream,
the fields of the other codec 0, as the closed context had them (R41, R140), and the model's own flag stale clear (log 7). A
mono key has nothing in channel 1 (log 9). -/
def Obligations.DecOpenOpensTheStream : Prop :=
  ∀ (c : Nat) (s : State) (cx : Ctx) (ch frames total : Nat) (stereo lossy : Bool),
    s.ctxs[c]? = some cx → cx.st = .closed →
    s.valid ⟨s.arg0.toNat, s.arg1.toNat⟩ = true → 10 ≤ s.arg1.toNat →
    frames = readNat s.mem s.arg0.toNat 4 → stereo = decide (readByte s.mem (s.arg0.toNat + 8) ≠ 0) →
    lossy = decide (readByte s.mem (s.arg0.toNat + 9) ≠ 0) → ch = (if stereo then 2 else 1) →
    total = (if lossy then frames else 8 * (frames / 8)) →
    frames ≠ 0 → (lossy = true → 10 + 2 * ch ≤ s.arg1.toNat) →
    ∃ t o, exec (.decOpen c) s = .next t ∧ t.ctxs[c]? = some o ∧ (∀ j, j ≠ c → t.ctxs[j]? = s.ctxs[j]?) ∧
      t = { s with
        err := .ok, ctxs := t.ctxs, res0 := BitVec.ofNat 32 frames,
        res1 := BitVec.ofNat 32 (readNat s.mem (s.arg0.toNat + 4) 4),
        res2 := (if stereo then 1#32 else 0#32) + (if lossy then 2#32 else 0#32), res3 := BitVec.ofNat 32 total } ∧
      o.st = (if total = 0 then .exhausted else .idle) ∧ o.base = s.arg0 ∧ o.len = s.arg1 ∧ o.frames.toNat = frames ∧
      o.rate = BitVec.ofNat 32 (readNat s.mem (s.arg0.toNat + 4) 4) ∧ o.stereo = stereo ∧ o.lossy = lossy ∧
      o.total.toNat = total ∧ o.remaining = o.total ∧ o.pos = 0 ∧ o.unit = 0 ∧ o.ovfLen = 0 ∧ o.ovfOff = 0 ∧
      o.ovf = List.replicate 8 Frame.zero ∧
      o.stale = false ∧
      (lossy = true → o.acc = Frame.zero ∧ o.runType = .small ∧ o.runLeft = 0 ∧ (stereo = false → o.key.ch1 = 0) ∧
        o.n.toNat = (frames - 1 + 3) / 4 ∧ o.cursor.toNat = 10 + 2 * ch ∧
        ∀ k, k < ch → o.key.get k = readSample s.mem (s.arg0.toNat + 10 + 2 * k)) ∧
      (lossy = false → o.key = Frame.zero ∧ o.n = 0 ∧ o.cursor.toNat = 10 ∧ o.acc = Frame.zero ∧ o.runType = .small ∧ o.runLeft = 0)

/-- R69, R131: DEC_OPEN raises BAD_CTX, CTX_STATE, REGION, TRUNCATED, UNSUPPORTED, TRUNCATED (no K_0), in that order,
and changes nothing but STATUS. -/
def Obligations.DecOpenTurnedAway : Prop :=
  ∀ (c : Nat) (s : State) (ch : Nat) (lossy : Bool),
    lossy = decide (readByte s.mem (s.arg0.toNat + 9) ≠ 0) →
    ch = (if readByte s.mem (s.arg0.toNat + 8) ≠ 0 then 2 else 1) →
    (s.numCtx ≤ c → exec (.decOpen c) s = .next { s with err := .badCtx }) ∧
    (∀ cx, s.ctxs[c]? = some cx → cx.st ≠ .closed → exec (.decOpen c) s = .next { s with err := .ctxState }) ∧
    (∀ cx, s.ctxs[c]? = some cx → cx.st = .closed →
      (s.valid ⟨s.arg0.toNat, s.arg1.toNat⟩ = false → exec (.decOpen c) s = .next { s with err := .region }) ∧
      (s.valid ⟨s.arg0.toNat, s.arg1.toNat⟩ = true → s.arg1.toNat < 10 →
        exec (.decOpen c) s = .next { s with err := .truncated }) ∧
      (s.valid ⟨s.arg0.toNat, s.arg1.toNat⟩ = true → 10 ≤ s.arg1.toNat → readNat s.mem s.arg0.toNat 4 = 0 →
        exec (.decOpen c) s = .next { s with err := .unsupported }) ∧
      (s.valid ⟨s.arg0.toNat, s.arg1.toNat⟩ = true → 10 ≤ s.arg1.toNat → readNat s.mem s.arg0.toNat 4 ≠ 0 →
        lossy = true → s.arg1.toNat < 10 + 2 * ch → exec (.decOpen c) s = .next { s with err := .truncated }))

/-- R132, R134: DEC_READ completes on an open context when every check passes and the units it needs decode: k =
min(count, remaining) frames in PCM layout at ARG0, the counters and the state of the context advanced, RES0 = k, and
nothing else changes. -/
def Obligations.DecReadDeliversFrames : Prop :=
  ∀ (c : Nat) (s : State) (cx cx' : Ctx) (ch k : Nat) (fs : List Frame),
    s.ctxs[c]? = some cx → cx.st ≠ .closed → cx.st ≠ .faulted → cx.stale = false → cx.inSpace = true →
    cx.scratchOk = true → ch = (if cx.stereo then 2 else 1) → k = min s.arg2.toNat cx.remaining.toNat →
    2 * ch * s.arg2.toNat ≤ s.arg1.toNat → s.valid ⟨s.arg0.toNat, 2 * ch * k⟩ = true →
    s.overlapsOpen ⟨s.arg0.toNat, 2 * ch * k⟩ = false → readFrames s.mem cx k = .ok (fs, cx') →
    ∃ t o, exec (.decRead c) s = .next t ∧ fs.length = k ∧ t.ctxs[c]? = some o ∧
      (∀ j, j ≠ c → t.ctxs[j]? = s.ctxs[j]?) ∧
      t = { s with err := .ok, res0 := BitVec.ofNat 32 k, ctxs := t.ctxs, mem := t.mem, reading := none } ∧
      (∀ q a f, q < k → a < ch → fs[q]? = some f → readSample t.mem (s.arg0.toNat + 2 * (ch * q + a)) = f.get a) ∧
      (∀ a, a < s.arg0.toNat ∨ s.arg0.toNat + 2 * ch * k ≤ a → readByte t.mem a = readByte s.mem a) ∧
      o = { cx' with remaining := o.remaining, pos := o.pos, st := o.st } ∧
      o.remaining.toNat = cx.remaining.toNat - k ∧ o.pos = cx.pos + BitVec.ofNat 32 k ∧
      (k = 0 → o.st = cx.st) ∧ (0 < k → o.st = (if o.remaining = 0 then .exhausted else .reading))

/-- R135, R152: a DEC_READ whose units raise TRUNCATED or MALFORMED ends with that code: the context is FAULTED, no byte
outside the destination region, no RES or DIAG register and no other context changes. That base, len, F, rate, C, lossy, n
and T stay is log 6's reading of R152, by R138. R106, R122, R124: the first unit needed raises TRUNCATED when its bytes or
its run header lie past the stream region, and MALFORMED at a reserved header or a first chunk that is not Full. -/
def Obligations.DecReadErrorFaultsTheContext : Prop :=
  ∀ (c : Nat) (s : State) (cx : Ctx) (ch k h w : Nat) (e : ErrCode),
    s.ctxs[c]? = some cx → cx.st ≠ .closed → cx.st ≠ .faulted → cx.stale = false → cx.inSpace = true →
    ch = (if cx.stereo then 2 else 1) → k = min s.arg2.toNat cx.remaining.toNat →
    h = (readByte s.mem (cx.base.toNat + cx.cursor.toNat)).toNat / 64 →
    w = (if h = 0 then 8 else if h = 1 then 12 else 16) →
    2 * ch * s.arg2.toNat ≤ s.arg1.toNat → s.valid ⟨s.arg0.toNat, 2 * ch * k⟩ = true →
    s.overlapsOpen ⟨s.arg0.toNat, 2 * ch * k⟩ = false →
    readFrames s.mem cx k = .error e ∨
    (cx.ovfLen - cx.ovfOff < k ∧
      ((cx.lossy = true ∧ cx.unit.toNat < cx.n.toNat ∧ cx.len.toNat < cx.cursor.toNat + 5 * ch ∧ e = .truncated) ∨
       (cx.lossy = false ∧ cx.runLeft = 0 ∧ cx.len.toNat < cx.cursor.toNat + 1 ∧ e = .truncated) ∨
       (cx.lossy = false ∧ cx.runLeft = 0 ∧ cx.cursor.toNat + 1 ≤ cx.len.toNat ∧
        (h = 3 ∨ (cx.unit = 0 ∧ h ≠ 2)) ∧ e = .malformed) ∨
       (cx.lossy = false ∧ cx.runLeft = 0 ∧ cx.cursor.toNat + 1 ≤ cx.len.toNat ∧
        h ≠ 3 ∧ (cx.unit = 0 → h = 2) ∧ cx.len.toNat < cx.cursor.toNat + 1 + w * ch ∧ e = .truncated) ∨
       (cx.lossy = false ∧ cx.runLeft ≠ 0 ∧
        ((cx.runType = .small ∧ cx.len.toNat < cx.cursor.toNat + 8 * ch) ∨
         (cx.runType = .medium ∧ cx.len.toNat < cx.cursor.toNat + 12 * ch) ∨
         (cx.runType = .full ∧ cx.len.toNat < cx.cursor.toNat + 16 * ch)) ∧ e = .truncated))) →
    (e = .truncated ∨ e = .malformed) ∧
    ∃ t o, exec (.decRead c) s = .next t ∧ t.ctxs[c]? = some o ∧ (∀ j, j ≠ c → t.ctxs[j]? = s.ctxs[j]?) ∧
      t = { s with err := e, ctxs := t.ctxs, mem := t.mem, reading := none, freeTick := s.freeTick + 1 } ∧
      (∀ a, a < s.arg0.toNat ∨ s.arg0.toNat + 2 * ch * k ≤ a → readByte t.mem a = readByte s.mem a) ∧
      o.st = .faulted ∧ o.base = cx.base ∧ o.len = cx.len ∧ o.frames = cx.frames ∧ o.rate = cx.rate ∧
      o.stereo = cx.stereo ∧ o.lossy = cx.lossy ∧ o.n = cx.n ∧ o.total = cx.total

/-- R69, R133, R134, R153: DEC_READ raises BAD_CTX, CTX_STATE, FAULTED, CAPACITY (measured against count), REGION,
OVERLAP, in that order, and changes nothing but STATUS. -/
def Obligations.DecReadTurnedAway : Prop :=
  ∀ (c : Nat) (s : State),
    (s.numCtx ≤ c → exec (.decRead c) s = .next { s with err := .badCtx }) ∧
    (∀ cx ch k, s.ctxs[c]? = some cx → ch = (if cx.stereo then 2 else 1) →
      k = min s.arg2.toNat cx.remaining.toNat →
      (cx.st = .closed → exec (.decRead c) s = .next { s with err := .ctxState }) ∧
      (cx.st = .faulted → exec (.decRead c) s = .next { s with err := .faulted }) ∧
      (cx.st ≠ .closed → cx.st ≠ .faulted →
        (s.arg1.toNat < 2 * ch * s.arg2.toNat → exec (.decRead c) s = .next { s with err := .capacity }) ∧
        (2 * ch * s.arg2.toNat ≤ s.arg1.toNat → s.valid ⟨s.arg0.toNat, 2 * ch * k⟩ = false →
          exec (.decRead c) s = .next { s with err := .region }) ∧
        (2 * ch * s.arg2.toNat ≤ s.arg1.toNat → s.valid ⟨s.arg0.toNat, 2 * ch * k⟩ = true →
          s.overlapsOpen ⟨s.arg0.toNat, 2 * ch * k⟩ = true → exec (.decRead c) s = .next { s with err := .overlap })))

/-- R136: streaming equivalence: the frames two successive reads deliver are those of one read of both counts, and the two
reads succeed exactly when the one does. -/
def Obligations.SplitReadsDeliverTheSameFrames : Prop :=
  ∀ (m : List Host.Cell) (cx : Ctx) (a b : Nat), cx.scratchOk = true →
    (∀ f1 c1 f2 c2, readFrames m cx a = .ok (f1, c1) → readFrames m c1 b = .ok (f2, c2) →
      ∃ c3, readFrames m cx (a + b) = .ok (f1 ++ f2, c3)) ∧
    (∀ fs c3, readFrames m cx (a + b) = .ok (fs, c3) →
      ∃ f1 c1 f2 c2, readFrames m cx a = .ok (f1, c1) ∧ readFrames m c1 b = .ok (f2, c2) ∧ fs = f1 ++ f2)

/-- R57, R171: a byte the host changes in the stream region of an open context makes that context stale (the model's own
flag, log 7) and changes no other context, no register and no other byte; a byte that keeps its value changes nothing. -/
def Obligations.HostChangeOfAnOpenStream : Prop :=
  ∀ (s : State) (addr : Word) (v : Byte) (rest : List HostAction), s.reading = none →
    s.inbox = .memWrite addr v :: rest →
    (readByte s.mem addr.toNat = v → step s = .next { s with inbox := rest }) ∧
    (readByte s.mem addr.toNat ≠ v → ∃ t, step s = .next t ∧
      t = { s with inbox := rest, mem := t.mem, ctxs := t.ctxs } ∧
      (∀ a, readByte t.mem a = if a = addr.toNat then v else readByte s.mem a) ∧
      ∀ (j : Nat) (cx : Ctx), s.ctxs[j]? = some cx →
        (cx.st ≠ .closed → cx.base.toNat ≤ addr.toNat → addr.toNat < cx.base.toNat + cx.len.toNat →
          t.ctxs[j]? = some { cx with stale := true }) ∧
        (cx.st = .closed ∨ addr.toNat < cx.base.toNat ∨ cx.base.toNat + cx.len.toNat ≤ addr.toNat →
          t.ctxs[j]? = some cx))

/-- R52, R174, R62 (log 8): a command while another bus master writes the bytes from `addr` on: it has a next state, and no
byte changes but those and the command's destination. Without cache maintenance it runs as usual on a coherent
platform, and as if so disturbed on another. -/
def Obligations.DisturbedCommands : Prop :=
  ∀ (s : State) (w addr count : Word) (i : Instr) (rest : List HostAction), s.inv = true → decodeWord w = .ok i →
    (s.inbox = .busWriteDuring w addr count :: rest → ∃ t, step s = .next t ∧
      ∀ a, a < addr.toNat ∨ addr.toNat + count.toNat ≤ a →
        a < (destRegion i (s.disturb (clipRegion addr count))).base ∨
          (destRegion i (s.disturb (clipRegion addr count))).base +
            (destRegion i (s.disturb (clipRegion addr count))).size ≤ a →
        readByte t.mem a = readByte s.mem a) ∧
    (s.inbox = .skipMaintenance w addr count :: rest →
      step s = (if s.platform.coherent then step { s with inbox := .regWrite 4 0x04#8 w :: rest }
        else step { s with inbox := .busWriteDuring w addr count :: rest }))

/-- R171: a DEC_READ of a stream the host has changed, its checks passed, ends OK with the k of R134, or TRUNCATED or
MALFORMED; only bytes of its destination region may change. R137: after an OK one the frames decoded so far are still
those up to the next unit. It holds whatever the free values are (log 5, log 7). -/
def Obligations.ReadOfAChangedStream : Prop :=
  ∀ (c : Nat) (s : State) (cx : Ctx) (ch k : Nat),
    s.ctxs[c]? = some cx → cx.st ≠ .closed → cx.st ≠ .faulted → cx.stale = true → cx.inSpace = true →
    ch = (if cx.stereo then 2 else 1) → k = min s.arg2.toNat cx.remaining.toNat →
    2 * ch * s.arg2.toNat ≤ s.arg1.toNat → s.valid ⟨s.arg0.toNat, 2 * ch * k⟩ = true →
    s.overlapsOpen ⟨s.arg0.toNat, 2 * ch * k⟩ = false →
    ∃ t o, exec (.decRead c) s = .next t ∧ t.ctxs[c]? = some o ∧ (∀ j, j ≠ c → t.ctxs[j]? = s.ctxs[j]?) ∧
      (∀ a, a < s.arg0.toNat ∨ s.arg0.toNat + 2 * ch * k ≤ a → readByte t.mem a = readByte s.mem a) ∧
      ((t.err = .ok ∧ t.res0 = BitVec.ofNat 32 k ∧ o.remaining.toNat = cx.remaining.toNat - k ∧ o.st ≠ .faulted ∧
          (s.inv = true → o.positionOk = true)) ∨
       ((t.err = .truncated ∨ t.err = .malformed) ∧ t.res0 = s.res0 ∧ o.st = .faulted)) ∧
      o.stale = true ∧
      t = { s with err := t.err, res0 := t.res0, ctxs := t.ctxs, mem := t.mem, reading := none, freeTick := s.freeTick + 1 }

/-- R138: DEC_RESET completes on every open context, FAULTED included, and returns it to the start of its stream: K_0 is read
again, or the accumulators and the run header are cleared; RES0 = T; the fields DEC_OPEN set stay. -/
def Obligations.DecResetRewinds : Prop :=
  ∀ (c : Nat) (s : State) (cx : Ctx) (ch : Nat), s.ctxs[c]? = some cx → cx.st ≠ .closed → cx.inSpace = true →
    ch = (if cx.stereo then 2 else 1) →
    ∃ t o, exec (.decReset c) s = .next t ∧ t.ctxs[c]? = some o ∧ (∀ j, j ≠ c → t.ctxs[j]? = s.ctxs[j]?) ∧
      t = { s with err := .ok, res0 := cx.total, ctxs := t.ctxs } ∧
      o.st = (if cx.total = 0 then .exhausted else .idle) ∧ o.base = cx.base ∧ o.len = cx.len ∧
      o.frames = cx.frames ∧ o.rate = cx.rate ∧ o.stereo = cx.stereo ∧ o.lossy = cx.lossy ∧ o.n = cx.n ∧
      o.total = cx.total ∧ o.remaining = cx.total ∧ o.pos = 0 ∧ o.unit = 0 ∧ o.ovfLen = 0 ∧ o.ovfOff = 0 ∧
      o.ovf = List.replicate 8 Frame.zero ∧ o.stale = false ∧
      (cx.lossy = true → o.cursor.toNat = 10 + 2 * ch ∧
        ∀ k, k < ch → o.key.get k = readSample s.mem (cx.base.toNat + 10 + 2 * k)) ∧
      (cx.lossy = false → o.cursor.toNat = 10 ∧ o.acc = Frame.zero ∧ o.runType = .small ∧ o.runLeft = 0)

/-- R139: a stream opened, read and reset is in the context exactly as DEC_OPEN left it. -/
def Obligations.ResetRestoresTheOpenedContext : Prop :=
  ∀ (c : Nat) (s t u v : State) (a b n : Word), exec (.decOpen c) s = .next t → t.err = .ok →
    exec (.decRead c) { t with arg0 := a, arg1 := b, arg2 := n } = .next u → u.err = .ok →
    exec (.decReset c) u = .next v → v.ctxs[c]? = t.ctxs[c]?

/-- R140: DEC_CLOSE completes on every open context: every field of it is 0, and nothing else changes but STATUS. -/
def Obligations.DecCloseClearsTheContext : Prop :=
  ∀ (c : Nat) (s : State) (cx : Ctx), s.ctxs[c]? = some cx → cx.st ≠ .closed →
    exec (.decClose c) s = .next { s with err := .ok, ctxs := s.ctxs.set c Ctx.closed }

/-- R69, R138, R140: DEC_RESET and DEC_CLOSE raise BAD_CTX, then CTX_STATE on a closed context, and change nothing but
STATUS. -/
def Obligations.DecResetAndCloseTurnedAway : Prop :=
  ∀ (c : Nat) (s : State) (i : Instr), i = .decReset c ∨ i = .decClose c →
    (s.numCtx ≤ c → exec i s = .next { s with err := .badCtx }) ∧
    (∀ cx, s.ctxs[c]? = some cx → cx.st = .closed → exec i s = .next { s with err := .ctxState })

/-! ### The whole machine -/

/-- The invariant holds after reset. -/
def Obligations.ResetStateSatisfiesTheInvariant : Prop := State.reset.inv = true

/-- The invariant is kept by every step, from every state that has it: memory in canonical form and inside the address space
(R43), 1 to 8 contexts (R7), each context closed with every field 0 (R41, R140) or open on a stream in memory with its
counters (R128), its position (R137) and its state (R34) consistent, and no command in progress (R17). -/
def Obligations.EveryStepKeepsTheMachineConsistent : Prop :=
  ∀ s t : State, s.inv = true → step s = .next t → t.inv = true

/-- R148, R156: nothing stops the block: from every state with the invariant a step has a next state, but for a host access
to the window that R32 refuses. -/
def Obligations.NoStepGetsStuck : Prop :=
  ∀ s : State, s.inv = true →
    (∃ t, step s = .next t) ∨
    (step s = .refused .windowAccess ∧ ∃ width off rest, (width ≠ 4 ∨ off.toNat % 4 ≠ 0) ∧
      (s.inbox = .regRead width off :: rest ∨ ∃ v, s.inbox = .regWrite width off v :: rest))

/-- R151, R152: an error of a command changes nothing but STATUS, except TRUNCATED and MALFORMED inside a DEC_READ. -/
def Obligations.ErrorsArePrecise : Prop :=
  ∀ (i : Instr) (s t : State), i.isCommand = true → exec i s = .next t → t.err ≠ .ok →
    t = { s with err := t.err } ∨ (∃ c, i = .decRead c ∧ (t.err = .truncated ∨ t.err = .malformed))

/-- R149: each command ends with one of the codes its column "raised by" gives it. -/
def Obligations.CommandsEndWithTheirCodes : Prop :=
  ∀ (i : Instr) (s t : State), i.isCommand = true → exec i s = .next t → mayEnd i t.err = true

/-- R29: the DIAG registers are written only by an ENC_AD that ends OK. -/
def Obligations.DiagWrittenOnlyByEncAd : Prop :=
  ∀ (i : Instr) (s t : State), exec i s = .next t → (∀ stereo, i ≠ .encAd stereo) ∨ t.err ≠ .ok →
    t.diagSmall = s.diagSmall ∧ t.diagMedium = s.diagMedium ∧ t.diagFull = s.diagFull ∧ t.diagRuns = s.diagRuns ∧
      t.diagSat = s.diagSat

/-- R54 (c), R171: no command changes a byte of the stream region of an open context. -/
def Obligations.CommandsLeaveOpenStreamsAlone : Prop :=
  ∀ (i : Instr) (s t : State) (j a : Nat) (cx : Ctx), i.isCommand = true → exec i s = .next t →
    s.ctxs[j]? = some cx → cx.st ≠ .closed → cx.base.toNat ≤ a → a < cx.base.toNat + cx.len.toNat →
    readByte t.mem a = readByte s.mem a

/-- R44: a command writes memory only inside its destination region: none, when its checks fail. -/
def Obligations.CommandsWriteOnlyTheirDestination : Prop :=
  ∀ (i : Instr) (s t : State) (a : Nat), i.isCommand = true → exec i s = .next t →
    a < (destRegion i s).base ∨ (destRegion i s).base + (destRegion i s).size ≤ a →
    readByte t.mem a = readByte s.mem a

/-- R34, R141: a command changes only the context it names, and, from a state with the invariant, its state only as R34
lists; the encoders, CVT_F32, HDR_WRITE and NOP change no context. -/
def Obligations.ContextsAreIndependent : Prop :=
  ∀ (i : Instr) (s t : State) (j : Nat) (cx cx' : Ctx), i.isCommand = true → exec i s = .next t →
    s.ctxs[j]? = some cx → t.ctxs[j]? = some cx' →
    (s.inv = true → i = .decOpen j ∨ i = .decRead j ∨ i = .decReset j ∨ i = .decClose j →
      cx'.st = cx.st ∨ mayMove i cx.st cx'.st = true) ∧
    (¬ (i = .decOpen j ∨ i = .decRead j ∨ i = .decReset j ∨ i = .decClose j) → cx' = cx)
end

