-- ==== Sys2Proof/Laws/State.lean ====
section
/-! SUPPORT. One lemma for each field and each update of the state, true by unfolding, so that no proof unfolds a record
update. -/

namespace Sys2Proof.Machine

variable (s : State)

/-! ### raise -/

@[simp] theorem State.raise_cmd (e : ErrCode) : (s.raise e).cmd = s.cmd := rfl
@[simp] theorem State.raise_err (e : ErrCode) : (s.raise e).err = e := rfl
@[simp] theorem State.raise_arg0 (e : ErrCode) : (s.raise e).arg0 = s.arg0 := rfl
@[simp] theorem State.raise_arg1 (e : ErrCode) : (s.raise e).arg1 = s.arg1 := rfl
@[simp] theorem State.raise_arg2 (e : ErrCode) : (s.raise e).arg2 = s.arg2 := rfl
@[simp] theorem State.raise_arg3 (e : ErrCode) : (s.raise e).arg3 = s.arg3 := rfl
@[simp] theorem State.raise_res0 (e : ErrCode) : (s.raise e).res0 = s.res0 := rfl
@[simp] theorem State.raise_res1 (e : ErrCode) : (s.raise e).res1 = s.res1 := rfl
@[simp] theorem State.raise_res2 (e : ErrCode) : (s.raise e).res2 = s.res2 := rfl
@[simp] theorem State.raise_res3 (e : ErrCode) : (s.raise e).res3 = s.res3 := rfl
@[simp] theorem State.raise_diagSmall (e : ErrCode) : (s.raise e).diagSmall = s.diagSmall := rfl
@[simp] theorem State.raise_diagMedium (e : ErrCode) : (s.raise e).diagMedium = s.diagMedium := rfl
@[simp] theorem State.raise_diagFull (e : ErrCode) : (s.raise e).diagFull = s.diagFull := rfl
@[simp] theorem State.raise_diagRuns (e : ErrCode) : (s.raise e).diagRuns = s.diagRuns := rfl
@[simp] theorem State.raise_diagSat (e : ErrCode) : (s.raise e).diagSat = s.diagSat := rfl
@[simp] theorem State.raise_ctxs (e : ErrCode) : (s.raise e).ctxs = s.ctxs := rfl
@[simp] theorem State.raise_mem (e : ErrCode) : (s.raise e).mem = s.mem := rfl
@[simp] theorem State.raise_platform (e : ErrCode) : (s.raise e).platform = s.platform := rfl
@[simp] theorem State.raise_inbox (e : ErrCode) : (s.raise e).inbox = s.inbox := rfl
@[simp] theorem State.raise_hostData (e : ErrCode) : (s.raise e).hostData = s.hostData := rfl
@[simp] theorem State.raise_reading (e : ErrCode) : (s.raise e).reading = s.reading := rfl
@[simp] theorem State.raise_freeTick (e : ErrCode) : (s.raise e).freeTick = s.freeTick := rfl

/-! ### finish -/

@[simp] theorem State.finish_cmd : (s.finish).cmd = s.cmd := rfl
@[simp] theorem State.finish_err : (s.finish).err = .ok := rfl
@[simp] theorem State.finish_arg0 : (s.finish).arg0 = s.arg0 := rfl
@[simp] theorem State.finish_arg1 : (s.finish).arg1 = s.arg1 := rfl
@[simp] theorem State.finish_arg2 : (s.finish).arg2 = s.arg2 := rfl
@[simp] theorem State.finish_arg3 : (s.finish).arg3 = s.arg3 := rfl
@[simp] theorem State.finish_res0 : (s.finish).res0 = s.res0 := rfl
@[simp] theorem State.finish_res1 : (s.finish).res1 = s.res1 := rfl
@[simp] theorem State.finish_res2 : (s.finish).res2 = s.res2 := rfl
@[simp] theorem State.finish_res3 : (s.finish).res3 = s.res3 := rfl
@[simp] theorem State.finish_diagSmall : (s.finish).diagSmall = s.diagSmall := rfl
@[simp] theorem State.finish_diagMedium : (s.finish).diagMedium = s.diagMedium := rfl
@[simp] theorem State.finish_diagFull : (s.finish).diagFull = s.diagFull := rfl
@[simp] theorem State.finish_diagRuns : (s.finish).diagRuns = s.diagRuns := rfl
@[simp] theorem State.finish_diagSat : (s.finish).diagSat = s.diagSat := rfl
@[simp] theorem State.finish_ctxs : (s.finish).ctxs = s.ctxs := rfl
@[simp] theorem State.finish_mem : (s.finish).mem = s.mem := rfl
@[simp] theorem State.finish_platform : (s.finish).platform = s.platform := rfl
@[simp] theorem State.finish_inbox : (s.finish).inbox = s.inbox := rfl
@[simp] theorem State.finish_hostData : (s.finish).hostData = s.hostData := rfl
@[simp] theorem State.finish_reading : (s.finish).reading = s.reading := rfl
@[simp] theorem State.finish_freeTick : (s.finish).freeTick = s.freeTick := rfl

/-! ### setRes0 -/

@[simp] theorem State.setRes0_cmd (v : Nat) : (s.setRes0 v).cmd = s.cmd := rfl
@[simp] theorem State.setRes0_err (v : Nat) : (s.setRes0 v).err = s.err := rfl
@[simp] theorem State.setRes0_arg0 (v : Nat) : (s.setRes0 v).arg0 = s.arg0 := rfl
@[simp] theorem State.setRes0_arg1 (v : Nat) : (s.setRes0 v).arg1 = s.arg1 := rfl
@[simp] theorem State.setRes0_arg2 (v : Nat) : (s.setRes0 v).arg2 = s.arg2 := rfl
@[simp] theorem State.setRes0_arg3 (v : Nat) : (s.setRes0 v).arg3 = s.arg3 := rfl
@[simp] theorem State.setRes0_res0 (v : Nat) : (s.setRes0 v).res0 = BitVec.ofNat 32 v := rfl
@[simp] theorem State.setRes0_res1 (v : Nat) : (s.setRes0 v).res1 = s.res1 := rfl
@[simp] theorem State.setRes0_res2 (v : Nat) : (s.setRes0 v).res2 = s.res2 := rfl
@[simp] theorem State.setRes0_res3 (v : Nat) : (s.setRes0 v).res3 = s.res3 := rfl
@[simp] theorem State.setRes0_diagSmall (v : Nat) : (s.setRes0 v).diagSmall = s.diagSmall := rfl
@[simp] theorem State.setRes0_diagMedium (v : Nat) : (s.setRes0 v).diagMedium = s.diagMedium := rfl
@[simp] theorem State.setRes0_diagFull (v : Nat) : (s.setRes0 v).diagFull = s.diagFull := rfl
@[simp] theorem State.setRes0_diagRuns (v : Nat) : (s.setRes0 v).diagRuns = s.diagRuns := rfl
@[simp] theorem State.setRes0_diagSat (v : Nat) : (s.setRes0 v).diagSat = s.diagSat := rfl
@[simp] theorem State.setRes0_ctxs (v : Nat) : (s.setRes0 v).ctxs = s.ctxs := rfl
@[simp] theorem State.setRes0_mem (v : Nat) : (s.setRes0 v).mem = s.mem := rfl
@[simp] theorem State.setRes0_platform (v : Nat) : (s.setRes0 v).platform = s.platform := rfl
@[simp] theorem State.setRes0_inbox (v : Nat) : (s.setRes0 v).inbox = s.inbox := rfl
@[simp] theorem State.setRes0_hostData (v : Nat) : (s.setRes0 v).hostData = s.hostData := rfl
@[simp] theorem State.setRes0_reading (v : Nat) : (s.setRes0 v).reading = s.reading := rfl
@[simp] theorem State.setRes0_freeTick (v : Nat) : (s.setRes0 v).freeTick = s.freeTick := rfl

/-! ### setRes1 -/

@[simp] theorem State.setRes1_cmd (v : Nat) : (s.setRes1 v).cmd = s.cmd := rfl
@[simp] theorem State.setRes1_err (v : Nat) : (s.setRes1 v).err = s.err := rfl
@[simp] theorem State.setRes1_arg0 (v : Nat) : (s.setRes1 v).arg0 = s.arg0 := rfl
@[simp] theorem State.setRes1_arg1 (v : Nat) : (s.setRes1 v).arg1 = s.arg1 := rfl
@[simp] theorem State.setRes1_arg2 (v : Nat) : (s.setRes1 v).arg2 = s.arg2 := rfl
@[simp] theorem State.setRes1_arg3 (v : Nat) : (s.setRes1 v).arg3 = s.arg3 := rfl
@[simp] theorem State.setRes1_res0 (v : Nat) : (s.setRes1 v).res0 = s.res0 := rfl
@[simp] theorem State.setRes1_res1 (v : Nat) : (s.setRes1 v).res1 = BitVec.ofNat 32 v := rfl
@[simp] theorem State.setRes1_res2 (v : Nat) : (s.setRes1 v).res2 = s.res2 := rfl
@[simp] theorem State.setRes1_res3 (v : Nat) : (s.setRes1 v).res3 = s.res3 := rfl
@[simp] theorem State.setRes1_diagSmall (v : Nat) : (s.setRes1 v).diagSmall = s.diagSmall := rfl
@[simp] theorem State.setRes1_diagMedium (v : Nat) : (s.setRes1 v).diagMedium = s.diagMedium := rfl
@[simp] theorem State.setRes1_diagFull (v : Nat) : (s.setRes1 v).diagFull = s.diagFull := rfl
@[simp] theorem State.setRes1_diagRuns (v : Nat) : (s.setRes1 v).diagRuns = s.diagRuns := rfl
@[simp] theorem State.setRes1_diagSat (v : Nat) : (s.setRes1 v).diagSat = s.diagSat := rfl
@[simp] theorem State.setRes1_ctxs (v : Nat) : (s.setRes1 v).ctxs = s.ctxs := rfl
@[simp] theorem State.setRes1_mem (v : Nat) : (s.setRes1 v).mem = s.mem := rfl
@[simp] theorem State.setRes1_platform (v : Nat) : (s.setRes1 v).platform = s.platform := rfl
@[simp] theorem State.setRes1_inbox (v : Nat) : (s.setRes1 v).inbox = s.inbox := rfl
@[simp] theorem State.setRes1_hostData (v : Nat) : (s.setRes1 v).hostData = s.hostData := rfl
@[simp] theorem State.setRes1_reading (v : Nat) : (s.setRes1 v).reading = s.reading := rfl
@[simp] theorem State.setRes1_freeTick (v : Nat) : (s.setRes1 v).freeTick = s.freeTick := rfl

/-! ### setRes2 -/

@[simp] theorem State.setRes2_cmd (v : Nat) : (s.setRes2 v).cmd = s.cmd := rfl
@[simp] theorem State.setRes2_err (v : Nat) : (s.setRes2 v).err = s.err := rfl
@[simp] theorem State.setRes2_arg0 (v : Nat) : (s.setRes2 v).arg0 = s.arg0 := rfl
@[simp] theorem State.setRes2_arg1 (v : Nat) : (s.setRes2 v).arg1 = s.arg1 := rfl
@[simp] theorem State.setRes2_arg2 (v : Nat) : (s.setRes2 v).arg2 = s.arg2 := rfl
@[simp] theorem State.setRes2_arg3 (v : Nat) : (s.setRes2 v).arg3 = s.arg3 := rfl
@[simp] theorem State.setRes2_res0 (v : Nat) : (s.setRes2 v).res0 = s.res0 := rfl
@[simp] theorem State.setRes2_res1 (v : Nat) : (s.setRes2 v).res1 = s.res1 := rfl
@[simp] theorem State.setRes2_res2 (v : Nat) : (s.setRes2 v).res2 = BitVec.ofNat 32 v := rfl
@[simp] theorem State.setRes2_res3 (v : Nat) : (s.setRes2 v).res3 = s.res3 := rfl
@[simp] theorem State.setRes2_diagSmall (v : Nat) : (s.setRes2 v).diagSmall = s.diagSmall := rfl
@[simp] theorem State.setRes2_diagMedium (v : Nat) : (s.setRes2 v).diagMedium = s.diagMedium := rfl
@[simp] theorem State.setRes2_diagFull (v : Nat) : (s.setRes2 v).diagFull = s.diagFull := rfl
@[simp] theorem State.setRes2_diagRuns (v : Nat) : (s.setRes2 v).diagRuns = s.diagRuns := rfl
@[simp] theorem State.setRes2_diagSat (v : Nat) : (s.setRes2 v).diagSat = s.diagSat := rfl
@[simp] theorem State.setRes2_ctxs (v : Nat) : (s.setRes2 v).ctxs = s.ctxs := rfl
@[simp] theorem State.setRes2_mem (v : Nat) : (s.setRes2 v).mem = s.mem := rfl
@[simp] theorem State.setRes2_platform (v : Nat) : (s.setRes2 v).platform = s.platform := rfl
@[simp] theorem State.setRes2_inbox (v : Nat) : (s.setRes2 v).inbox = s.inbox := rfl
@[simp] theorem State.setRes2_hostData (v : Nat) : (s.setRes2 v).hostData = s.hostData := rfl
@[simp] theorem State.setRes2_reading (v : Nat) : (s.setRes2 v).reading = s.reading := rfl
@[simp] theorem State.setRes2_freeTick (v : Nat) : (s.setRes2 v).freeTick = s.freeTick := rfl

/-! ### setRes3 -/

@[simp] theorem State.setRes3_cmd (v : Nat) : (s.setRes3 v).cmd = s.cmd := rfl
@[simp] theorem State.setRes3_err (v : Nat) : (s.setRes3 v).err = s.err := rfl
@[simp] theorem State.setRes3_arg0 (v : Nat) : (s.setRes3 v).arg0 = s.arg0 := rfl
@[simp] theorem State.setRes3_arg1 (v : Nat) : (s.setRes3 v).arg1 = s.arg1 := rfl
@[simp] theorem State.setRes3_arg2 (v : Nat) : (s.setRes3 v).arg2 = s.arg2 := rfl
@[simp] theorem State.setRes3_arg3 (v : Nat) : (s.setRes3 v).arg3 = s.arg3 := rfl
@[simp] theorem State.setRes3_res0 (v : Nat) : (s.setRes3 v).res0 = s.res0 := rfl
@[simp] theorem State.setRes3_res1 (v : Nat) : (s.setRes3 v).res1 = s.res1 := rfl
@[simp] theorem State.setRes3_res2 (v : Nat) : (s.setRes3 v).res2 = s.res2 := rfl
@[simp] theorem State.setRes3_res3 (v : Nat) : (s.setRes3 v).res3 = BitVec.ofNat 32 v := rfl
@[simp] theorem State.setRes3_diagSmall (v : Nat) : (s.setRes3 v).diagSmall = s.diagSmall := rfl
@[simp] theorem State.setRes3_diagMedium (v : Nat) : (s.setRes3 v).diagMedium = s.diagMedium := rfl
@[simp] theorem State.setRes3_diagFull (v : Nat) : (s.setRes3 v).diagFull = s.diagFull := rfl
@[simp] theorem State.setRes3_diagRuns (v : Nat) : (s.setRes3 v).diagRuns = s.diagRuns := rfl
@[simp] theorem State.setRes3_diagSat (v : Nat) : (s.setRes3 v).diagSat = s.diagSat := rfl
@[simp] theorem State.setRes3_ctxs (v : Nat) : (s.setRes3 v).ctxs = s.ctxs := rfl
@[simp] theorem State.setRes3_mem (v : Nat) : (s.setRes3 v).mem = s.mem := rfl
@[simp] theorem State.setRes3_platform (v : Nat) : (s.setRes3 v).platform = s.platform := rfl
@[simp] theorem State.setRes3_inbox (v : Nat) : (s.setRes3 v).inbox = s.inbox := rfl
@[simp] theorem State.setRes3_hostData (v : Nat) : (s.setRes3 v).hostData = s.hostData := rfl
@[simp] theorem State.setRes3_reading (v : Nat) : (s.setRes3 v).reading = s.reading := rfl
@[simp] theorem State.setRes3_freeTick (v : Nat) : (s.setRes3 v).freeTick = s.freeTick := rfl

/-! ### setDiag -/

@[simp] theorem State.setDiag_cmd (a b c d e : Nat) : (s.setDiag a b c d e).cmd = s.cmd := rfl
@[simp] theorem State.setDiag_err (a b c d e : Nat) : (s.setDiag a b c d e).err = s.err := rfl
@[simp] theorem State.setDiag_arg0 (a b c d e : Nat) : (s.setDiag a b c d e).arg0 = s.arg0 := rfl
@[simp] theorem State.setDiag_arg1 (a b c d e : Nat) : (s.setDiag a b c d e).arg1 = s.arg1 := rfl
@[simp] theorem State.setDiag_arg2 (a b c d e : Nat) : (s.setDiag a b c d e).arg2 = s.arg2 := rfl
@[simp] theorem State.setDiag_arg3 (a b c d e : Nat) : (s.setDiag a b c d e).arg3 = s.arg3 := rfl
@[simp] theorem State.setDiag_res0 (a b c d e : Nat) : (s.setDiag a b c d e).res0 = s.res0 := rfl
@[simp] theorem State.setDiag_res1 (a b c d e : Nat) : (s.setDiag a b c d e).res1 = s.res1 := rfl
@[simp] theorem State.setDiag_res2 (a b c d e : Nat) : (s.setDiag a b c d e).res2 = s.res2 := rfl
@[simp] theorem State.setDiag_res3 (a b c d e : Nat) : (s.setDiag a b c d e).res3 = s.res3 := rfl
@[simp] theorem State.setDiag_diagSmall (a b c d e : Nat) : (s.setDiag a b c d e).diagSmall = BitVec.ofNat 32 a := rfl
@[simp] theorem State.setDiag_diagMedium (a b c d e : Nat) : (s.setDiag a b c d e).diagMedium = BitVec.ofNat 32 b :=
    rfl
@[simp] theorem State.setDiag_diagFull (a b c d e : Nat) : (s.setDiag a b c d e).diagFull = BitVec.ofNat 32 c := rfl
@[simp] theorem State.setDiag_diagRuns (a b c d e : Nat) : (s.setDiag a b c d e).diagRuns = BitVec.ofNat 32 d := rfl
@[simp] theorem State.setDiag_diagSat (a b c d e : Nat) : (s.setDiag a b c d e).diagSat = BitVec.ofNat 32 e := rfl
@[simp] theorem State.setDiag_ctxs (a b c d e : Nat) : (s.setDiag a b c d e).ctxs = s.ctxs := rfl
@[simp] theorem State.setDiag_mem (a b c d e : Nat) : (s.setDiag a b c d e).mem = s.mem := rfl
@[simp] theorem State.setDiag_platform (a b c d e : Nat) : (s.setDiag a b c d e).platform = s.platform := rfl
@[simp] theorem State.setDiag_inbox (a b c d e : Nat) : (s.setDiag a b c d e).inbox = s.inbox := rfl
@[simp] theorem State.setDiag_hostData (a b c d e : Nat) : (s.setDiag a b c d e).hostData = s.hostData := rfl
@[simp] theorem State.setDiag_reading (a b c d e : Nat) : (s.setDiag a b c d e).reading = s.reading := rfl
@[simp] theorem State.setDiag_freeTick (a b c d e : Nat) : (s.setDiag a b c d e).freeTick = s.freeTick := rfl

/-! ### setCtx -/

@[simp] theorem State.setCtx_cmd (c : Nat) (cx : Ctx) : (s.setCtx c cx).cmd = s.cmd := rfl
@[simp] theorem State.setCtx_err (c : Nat) (cx : Ctx) : (s.setCtx c cx).err = s.err := rfl
@[simp] theorem State.setCtx_arg0 (c : Nat) (cx : Ctx) : (s.setCtx c cx).arg0 = s.arg0 := rfl
@[simp] theorem State.setCtx_arg1 (c : Nat) (cx : Ctx) : (s.setCtx c cx).arg1 = s.arg1 := rfl
@[simp] theorem State.setCtx_arg2 (c : Nat) (cx : Ctx) : (s.setCtx c cx).arg2 = s.arg2 := rfl
@[simp] theorem State.setCtx_arg3 (c : Nat) (cx : Ctx) : (s.setCtx c cx).arg3 = s.arg3 := rfl
@[simp] theorem State.setCtx_res0 (c : Nat) (cx : Ctx) : (s.setCtx c cx).res0 = s.res0 := rfl
@[simp] theorem State.setCtx_res1 (c : Nat) (cx : Ctx) : (s.setCtx c cx).res1 = s.res1 := rfl
@[simp] theorem State.setCtx_res2 (c : Nat) (cx : Ctx) : (s.setCtx c cx).res2 = s.res2 := rfl
@[simp] theorem State.setCtx_res3 (c : Nat) (cx : Ctx) : (s.setCtx c cx).res3 = s.res3 := rfl
@[simp] theorem State.setCtx_diagSmall (c : Nat) (cx : Ctx) : (s.setCtx c cx).diagSmall = s.diagSmall := rfl
@[simp] theorem State.setCtx_diagMedium (c : Nat) (cx : Ctx) : (s.setCtx c cx).diagMedium = s.diagMedium := rfl
@[simp] theorem State.setCtx_diagFull (c : Nat) (cx : Ctx) : (s.setCtx c cx).diagFull = s.diagFull := rfl
@[simp] theorem State.setCtx_diagRuns (c : Nat) (cx : Ctx) : (s.setCtx c cx).diagRuns = s.diagRuns := rfl
@[simp] theorem State.setCtx_diagSat (c : Nat) (cx : Ctx) : (s.setCtx c cx).diagSat = s.diagSat := rfl
@[simp] theorem State.setCtx_ctxs (c : Nat) (cx : Ctx) : (s.setCtx c cx).ctxs = s.ctxs.set c cx := rfl
@[simp] theorem State.setCtx_mem (c : Nat) (cx : Ctx) : (s.setCtx c cx).mem = s.mem := rfl
@[simp] theorem State.setCtx_platform (c : Nat) (cx : Ctx) : (s.setCtx c cx).platform = s.platform := rfl
@[simp] theorem State.setCtx_inbox (c : Nat) (cx : Ctx) : (s.setCtx c cx).inbox = s.inbox := rfl
@[simp] theorem State.setCtx_hostData (c : Nat) (cx : Ctx) : (s.setCtx c cx).hostData = s.hostData := rfl
@[simp] theorem State.setCtx_reading (c : Nat) (cx : Ctx) : (s.setCtx c cx).reading = s.reading := rfl
@[simp] theorem State.setCtx_freeTick (c : Nat) (cx : Ctx) : (s.setCtx c cx).freeTick = s.freeTick := rfl

/-! ### store -/

@[simp] theorem State.store_cmd (a : Nat) (bs : List Byte) : (s.store a bs).cmd = s.cmd := rfl
@[simp] theorem State.store_err (a : Nat) (bs : List Byte) : (s.store a bs).err = s.err := rfl
@[simp] theorem State.store_arg0 (a : Nat) (bs : List Byte) : (s.store a bs).arg0 = s.arg0 := rfl
@[simp] theorem State.store_arg1 (a : Nat) (bs : List Byte) : (s.store a bs).arg1 = s.arg1 := rfl
@[simp] theorem State.store_arg2 (a : Nat) (bs : List Byte) : (s.store a bs).arg2 = s.arg2 := rfl
@[simp] theorem State.store_arg3 (a : Nat) (bs : List Byte) : (s.store a bs).arg3 = s.arg3 := rfl
@[simp] theorem State.store_res0 (a : Nat) (bs : List Byte) : (s.store a bs).res0 = s.res0 := rfl
@[simp] theorem State.store_res1 (a : Nat) (bs : List Byte) : (s.store a bs).res1 = s.res1 := rfl
@[simp] theorem State.store_res2 (a : Nat) (bs : List Byte) : (s.store a bs).res2 = s.res2 := rfl
@[simp] theorem State.store_res3 (a : Nat) (bs : List Byte) : (s.store a bs).res3 = s.res3 := rfl
@[simp] theorem State.store_diagSmall (a : Nat) (bs : List Byte) : (s.store a bs).diagSmall = s.diagSmall := rfl
@[simp] theorem State.store_diagMedium (a : Nat) (bs : List Byte) : (s.store a bs).diagMedium = s.diagMedium := rfl
@[simp] theorem State.store_diagFull (a : Nat) (bs : List Byte) : (s.store a bs).diagFull = s.diagFull := rfl
@[simp] theorem State.store_diagRuns (a : Nat) (bs : List Byte) : (s.store a bs).diagRuns = s.diagRuns := rfl
@[simp] theorem State.store_diagSat (a : Nat) (bs : List Byte) : (s.store a bs).diagSat = s.diagSat := rfl
@[simp] theorem State.store_ctxs (a : Nat) (bs : List Byte) : (s.store a bs).ctxs = s.ctxs := rfl
@[simp] theorem State.store_mem (a : Nat) (bs : List Byte) : (s.store a bs).mem = writeBytes s.mem a bs := rfl
@[simp] theorem State.store_platform (a : Nat) (bs : List Byte) : (s.store a bs).platform = s.platform := rfl
@[simp] theorem State.store_inbox (a : Nat) (bs : List Byte) : (s.store a bs).inbox = s.inbox := rfl
@[simp] theorem State.store_hostData (a : Nat) (bs : List Byte) : (s.store a bs).hostData = s.hostData := rfl
@[simp] theorem State.store_reading (a : Nat) (bs : List Byte) : (s.store a bs).reading = s.reading := rfl
@[simp] theorem State.store_freeTick (a : Nat) (bs : List Byte) : (s.store a bs).freeTick = s.freeTick := rfl

/-! ### setReading -/

@[simp] theorem State.setReading_cmd (j : Option ReadJob) : (s.setReading j).cmd = s.cmd := rfl
@[simp] theorem State.setReading_err (j : Option ReadJob) : (s.setReading j).err = s.err := rfl
@[simp] theorem State.setReading_arg0 (j : Option ReadJob) : (s.setReading j).arg0 = s.arg0 := rfl
@[simp] theorem State.setReading_arg1 (j : Option ReadJob) : (s.setReading j).arg1 = s.arg1 := rfl
@[simp] theorem State.setReading_arg2 (j : Option ReadJob) : (s.setReading j).arg2 = s.arg2 := rfl
@[simp] theorem State.setReading_arg3 (j : Option ReadJob) : (s.setReading j).arg3 = s.arg3 := rfl
@[simp] theorem State.setReading_res0 (j : Option ReadJob) : (s.setReading j).res0 = s.res0 := rfl
@[simp] theorem State.setReading_res1 (j : Option ReadJob) : (s.setReading j).res1 = s.res1 := rfl
@[simp] theorem State.setReading_res2 (j : Option ReadJob) : (s.setReading j).res2 = s.res2 := rfl
@[simp] theorem State.setReading_res3 (j : Option ReadJob) : (s.setReading j).res3 = s.res3 := rfl
@[simp] theorem State.setReading_diagSmall (j : Option ReadJob) : (s.setReading j).diagSmall = s.diagSmall := rfl
@[simp] theorem State.setReading_diagMedium (j : Option ReadJob) : (s.setReading j).diagMedium = s.diagMedium := rfl
@[simp] theorem State.setReading_diagFull (j : Option ReadJob) : (s.setReading j).diagFull = s.diagFull := rfl
@[simp] theorem State.setReading_diagRuns (j : Option ReadJob) : (s.setReading j).diagRuns = s.diagRuns := rfl
@[simp] theorem State.setReading_diagSat (j : Option ReadJob) : (s.setReading j).diagSat = s.diagSat := rfl
@[simp] theorem State.setReading_ctxs (j : Option ReadJob) : (s.setReading j).ctxs = s.ctxs := rfl
@[simp] theorem State.setReading_mem (j : Option ReadJob) : (s.setReading j).mem = s.mem := rfl
@[simp] theorem State.setReading_platform (j : Option ReadJob) : (s.setReading j).platform = s.platform := rfl
@[simp] theorem State.setReading_inbox (j : Option ReadJob) : (s.setReading j).inbox = s.inbox := rfl
@[simp] theorem State.setReading_hostData (j : Option ReadJob) : (s.setReading j).hostData = s.hostData := rfl
@[simp] theorem State.setReading_reading (j : Option ReadJob) : (s.setReading j).reading = j := rfl
@[simp] theorem State.setReading_freeTick (j : Option ReadJob) : (s.setReading j).freeTick = s.freeTick := rfl

/-! ### scramble -/

@[simp] theorem State.scramble_cmd (r : Region) : (s.scramble r).cmd = s.cmd := rfl
@[simp] theorem State.scramble_err (r : Region) : (s.scramble r).err = s.err := rfl
@[simp] theorem State.scramble_arg0 (r : Region) : (s.scramble r).arg0 = s.arg0 := rfl
@[simp] theorem State.scramble_arg1 (r : Region) : (s.scramble r).arg1 = s.arg1 := rfl
@[simp] theorem State.scramble_arg2 (r : Region) : (s.scramble r).arg2 = s.arg2 := rfl
@[simp] theorem State.scramble_arg3 (r : Region) : (s.scramble r).arg3 = s.arg3 := rfl
@[simp] theorem State.scramble_res0 (r : Region) : (s.scramble r).res0 = s.res0 := rfl
@[simp] theorem State.scramble_res1 (r : Region) : (s.scramble r).res1 = s.res1 := rfl
@[simp] theorem State.scramble_res2 (r : Region) : (s.scramble r).res2 = s.res2 := rfl
@[simp] theorem State.scramble_res3 (r : Region) : (s.scramble r).res3 = s.res3 := rfl
@[simp] theorem State.scramble_diagSmall (r : Region) : (s.scramble r).diagSmall = s.diagSmall := rfl
@[simp] theorem State.scramble_diagMedium (r : Region) : (s.scramble r).diagMedium = s.diagMedium := rfl
@[simp] theorem State.scramble_diagFull (r : Region) : (s.scramble r).diagFull = s.diagFull := rfl
@[simp] theorem State.scramble_diagRuns (r : Region) : (s.scramble r).diagRuns = s.diagRuns := rfl
@[simp] theorem State.scramble_diagSat (r : Region) : (s.scramble r).diagSat = s.diagSat := rfl
@[simp] theorem State.scramble_ctxs (r : Region) : (s.scramble r).ctxs = s.ctxs := rfl
@[simp] theorem State.scramble_mem (r : Region) : (s.scramble r).mem = writeBytes s.mem r.base (freeBytes s.freeTick r.size) :=
    rfl
@[simp] theorem State.scramble_platform (r : Region) : (s.scramble r).platform = s.platform := rfl
@[simp] theorem State.scramble_inbox (r : Region) : (s.scramble r).inbox = s.inbox := rfl
@[simp] theorem State.scramble_hostData (r : Region) : (s.scramble r).hostData = s.hostData := rfl
@[simp] theorem State.scramble_reading (r : Region) : (s.scramble r).reading = s.reading := rfl
@[simp] theorem State.scramble_freeTick (r : Region) : (s.scramble r).freeTick = s.freeTick + 1 := rfl

/-! ### setAdDiag -/

@[simp] theorem State.setAdDiag_cmd (cs : List AdChunk) (rs : List AdRun) : (s.setAdDiag cs rs).cmd = s.cmd := rfl
@[simp] theorem State.setAdDiag_err (cs : List AdChunk) (rs : List AdRun) : (s.setAdDiag cs rs).err = s.err := rfl
@[simp] theorem State.setAdDiag_arg0 (cs : List AdChunk) (rs : List AdRun) : (s.setAdDiag cs rs).arg0 = s.arg0 := rfl
@[simp] theorem State.setAdDiag_arg1 (cs : List AdChunk) (rs : List AdRun) : (s.setAdDiag cs rs).arg1 = s.arg1 := rfl
@[simp] theorem State.setAdDiag_arg2 (cs : List AdChunk) (rs : List AdRun) : (s.setAdDiag cs rs).arg2 = s.arg2 := rfl
@[simp] theorem State.setAdDiag_arg3 (cs : List AdChunk) (rs : List AdRun) : (s.setAdDiag cs rs).arg3 = s.arg3 := rfl
@[simp] theorem State.setAdDiag_res0 (cs : List AdChunk) (rs : List AdRun) : (s.setAdDiag cs rs).res0 = s.res0 := rfl
@[simp] theorem State.setAdDiag_res1 (cs : List AdChunk) (rs : List AdRun) : (s.setAdDiag cs rs).res1 = s.res1 := rfl
@[simp] theorem State.setAdDiag_res2 (cs : List AdChunk) (rs : List AdRun) : (s.setAdDiag cs rs).res2 = s.res2 := rfl
@[simp] theorem State.setAdDiag_res3 (cs : List AdChunk) (rs : List AdRun) : (s.setAdDiag cs rs).res3 = s.res3 := rfl
@[simp] theorem State.setAdDiag_diagSmall (cs : List AdChunk) (rs : List AdRun) : (s.setAdDiag cs rs).diagSmall = BitVec.ofNat 32 (adCount .small cs) :=
    rfl
@[simp] theorem State.setAdDiag_diagMedium (cs : List AdChunk) (rs : List AdRun) : (s.setAdDiag cs rs).diagMedium = BitVec.ofNat 32 (adCount .medium cs) :=
    rfl
@[simp] theorem State.setAdDiag_diagFull (cs : List AdChunk) (rs : List AdRun) : (s.setAdDiag cs rs).diagFull = BitVec.ofNat 32 (adCount .full cs) :=
    rfl
@[simp] theorem State.setAdDiag_diagRuns (cs : List AdChunk) (rs : List AdRun) : (s.setAdDiag cs rs).diagRuns = BitVec.ofNat 32 rs.length :=
    rfl
@[simp] theorem State.setAdDiag_diagSat (cs : List AdChunk) (rs : List AdRun) : (s.setAdDiag cs rs).diagSat = BitVec.ofNat 32 (adSaturated rs) :=
    rfl
@[simp] theorem State.setAdDiag_ctxs (cs : List AdChunk) (rs : List AdRun) : (s.setAdDiag cs rs).ctxs = s.ctxs := rfl
@[simp] theorem State.setAdDiag_mem (cs : List AdChunk) (rs : List AdRun) : (s.setAdDiag cs rs).mem = s.mem := rfl
@[simp] theorem State.setAdDiag_platform (cs : List AdChunk) (rs : List AdRun) : (s.setAdDiag cs rs).platform = s.platform :=
    rfl
@[simp] theorem State.setAdDiag_inbox (cs : List AdChunk) (rs : List AdRun) : (s.setAdDiag cs rs).inbox = s.inbox :=
    rfl
@[simp] theorem State.setAdDiag_hostData (cs : List AdChunk) (rs : List AdRun) : (s.setAdDiag cs rs).hostData = s.hostData :=
    rfl
@[simp] theorem State.setAdDiag_reading (cs : List AdChunk) (rs : List AdRun) : (s.setAdDiag cs rs).reading = s.reading :=
    rfl
@[simp] theorem State.setAdDiag_freeTick (cs : List AdChunk) (rs : List AdRun) : (s.setAdDiag cs rs).freeTick = s.freeTick :=
    rfl

/-! ### endRead -/

@[simp] theorem State.endRead_cmd (c k : Nat) (cx : Ctx) : (s.endRead c k cx).cmd = s.cmd := rfl
@[simp] theorem State.endRead_err (c k : Nat) (cx : Ctx) : (s.endRead c k cx).err = .ok := rfl
@[simp] theorem State.endRead_arg0 (c k : Nat) (cx : Ctx) : (s.endRead c k cx).arg0 = s.arg0 := rfl
@[simp] theorem State.endRead_arg1 (c k : Nat) (cx : Ctx) : (s.endRead c k cx).arg1 = s.arg1 := rfl
@[simp] theorem State.endRead_arg2 (c k : Nat) (cx : Ctx) : (s.endRead c k cx).arg2 = s.arg2 := rfl
@[simp] theorem State.endRead_arg3 (c k : Nat) (cx : Ctx) : (s.endRead c k cx).arg3 = s.arg3 := rfl
@[simp] theorem State.endRead_res0 (c k : Nat) (cx : Ctx) : (s.endRead c k cx).res0 = BitVec.ofNat 32 k := rfl
@[simp] theorem State.endRead_res1 (c k : Nat) (cx : Ctx) : (s.endRead c k cx).res1 = s.res1 := rfl
@[simp] theorem State.endRead_res2 (c k : Nat) (cx : Ctx) : (s.endRead c k cx).res2 = s.res2 := rfl
@[simp] theorem State.endRead_res3 (c k : Nat) (cx : Ctx) : (s.endRead c k cx).res3 = s.res3 := rfl
@[simp] theorem State.endRead_diagSmall (c k : Nat) (cx : Ctx) : (s.endRead c k cx).diagSmall = s.diagSmall := rfl
@[simp] theorem State.endRead_diagMedium (c k : Nat) (cx : Ctx) : (s.endRead c k cx).diagMedium = s.diagMedium := rfl
@[simp] theorem State.endRead_diagFull (c k : Nat) (cx : Ctx) : (s.endRead c k cx).diagFull = s.diagFull := rfl
@[simp] theorem State.endRead_diagRuns (c k : Nat) (cx : Ctx) : (s.endRead c k cx).diagRuns = s.diagRuns := rfl
@[simp] theorem State.endRead_diagSat (c k : Nat) (cx : Ctx) : (s.endRead c k cx).diagSat = s.diagSat := rfl
@[simp] theorem State.endRead_ctxs (c k : Nat) (cx : Ctx) : (s.endRead c k cx).ctxs = s.ctxs.set c (cx.account k) :=
    rfl
@[simp] theorem State.endRead_mem (c k : Nat) (cx : Ctx) : (s.endRead c k cx).mem = s.mem := rfl
@[simp] theorem State.endRead_platform (c k : Nat) (cx : Ctx) : (s.endRead c k cx).platform = s.platform := rfl
@[simp] theorem State.endRead_inbox (c k : Nat) (cx : Ctx) : (s.endRead c k cx).inbox = s.inbox := rfl
@[simp] theorem State.endRead_hostData (c k : Nat) (cx : Ctx) : (s.endRead c k cx).hostData = s.hostData := rfl
@[simp] theorem State.endRead_reading (c k : Nat) (cx : Ctx) : (s.endRead c k cx).reading = none := rfl
@[simp] theorem State.endRead_freeTick (c k : Nat) (cx : Ctx) : (s.endRead c k cx).freeTick = s.freeTick := rfl

/-! ### failRead -/

@[simp] theorem State.failRead_cmd (c : Nat) (cx : Ctx) (dst k : Nat) (e : ErrCode) : (s.failRead c cx dst k e).cmd = s.cmd :=
    rfl
@[simp] theorem State.failRead_err (c : Nat) (cx : Ctx) (dst k : Nat) (e : ErrCode) : (s.failRead c cx dst k e).err = e :=
    rfl
@[simp] theorem State.failRead_arg0 (c : Nat) (cx : Ctx) (dst k : Nat) (e : ErrCode) : (s.failRead c cx dst k e).arg0 = s.arg0 :=
    rfl
@[simp] theorem State.failRead_arg1 (c : Nat) (cx : Ctx) (dst k : Nat) (e : ErrCode) : (s.failRead c cx dst k e).arg1 = s.arg1 :=
    rfl
@[simp] theorem State.failRead_arg2 (c : Nat) (cx : Ctx) (dst k : Nat) (e : ErrCode) : (s.failRead c cx dst k e).arg2 = s.arg2 :=
    rfl
@[simp] theorem State.failRead_arg3 (c : Nat) (cx : Ctx) (dst k : Nat) (e : ErrCode) : (s.failRead c cx dst k e).arg3 = s.arg3 :=
    rfl
@[simp] theorem State.failRead_res0 (c : Nat) (cx : Ctx) (dst k : Nat) (e : ErrCode) : (s.failRead c cx dst k e).res0 = s.res0 :=
    rfl
@[simp] theorem State.failRead_res1 (c : Nat) (cx : Ctx) (dst k : Nat) (e : ErrCode) : (s.failRead c cx dst k e).res1 = s.res1 :=
    rfl
@[simp] theorem State.failRead_res2 (c : Nat) (cx : Ctx) (dst k : Nat) (e : ErrCode) : (s.failRead c cx dst k e).res2 = s.res2 :=
    rfl
@[simp] theorem State.failRead_res3 (c : Nat) (cx : Ctx) (dst k : Nat) (e : ErrCode) : (s.failRead c cx dst k e).res3 = s.res3 :=
    rfl
@[simp] theorem State.failRead_diagSmall (c : Nat) (cx : Ctx) (dst k : Nat) (e : ErrCode) : (s.failRead c cx dst k e).diagSmall = s.diagSmall :=
    rfl
@[simp] theorem State.failRead_diagMedium (c : Nat) (cx : Ctx) (dst k : Nat) (e : ErrCode) : (s.failRead c cx dst k e).diagMedium = s.diagMedium :=
    rfl
@[simp] theorem State.failRead_diagFull (c : Nat) (cx : Ctx) (dst k : Nat) (e : ErrCode) : (s.failRead c cx dst k e).diagFull = s.diagFull :=
    rfl
@[simp] theorem State.failRead_diagRuns (c : Nat) (cx : Ctx) (dst k : Nat) (e : ErrCode) : (s.failRead c cx dst k e).diagRuns = s.diagRuns :=
    rfl
@[simp] theorem State.failRead_diagSat (c : Nat) (cx : Ctx) (dst k : Nat) (e : ErrCode) : (s.failRead c cx dst k e).diagSat = s.diagSat :=
    rfl
@[simp] theorem State.failRead_ctxs (c : Nat) (cx : Ctx) (dst k : Nat) (e : ErrCode) : (s.failRead c cx dst k e).ctxs = s.ctxs.set c { cx.scramble s.freeTick with st := .faulted } :=
    rfl
@[simp] theorem State.failRead_mem (c : Nat) (cx : Ctx) (dst k : Nat) (e : ErrCode) : (s.failRead c cx dst k e).mem = writeBytes s.mem dst (freeBytes s.freeTick (2 * channels cx.stereo * k)) :=
    rfl
@[simp] theorem State.failRead_platform (c : Nat) (cx : Ctx) (dst k : Nat) (e : ErrCode) : (s.failRead c cx dst k e).platform = s.platform :=
    rfl
@[simp] theorem State.failRead_inbox (c : Nat) (cx : Ctx) (dst k : Nat) (e : ErrCode) : (s.failRead c cx dst k e).inbox = s.inbox :=
    rfl
@[simp] theorem State.failRead_hostData (c : Nat) (cx : Ctx) (dst k : Nat) (e : ErrCode) : (s.failRead c cx dst k e).hostData = s.hostData :=
    rfl
@[simp] theorem State.failRead_reading (c : Nat) (cx : Ctx) (dst k : Nat) (e : ErrCode) : (s.failRead c cx dst k e).reading = none :=
    rfl
@[simp] theorem State.failRead_freeTick (c : Nat) (cx : Ctx) (dst k : Nat) (e : ErrCode) : (s.failRead c cx dst k e).freeTick = s.freeTick + 1 :=
    rfl

/-! ### disturb and settle -/

@[simp] theorem State.disturb_cmd (r : Region) : (s.disturb r).cmd = s.cmd := rfl
@[simp] theorem State.disturb_err (r : Region) : (s.disturb r).err = s.err := rfl
@[simp] theorem State.disturb_arg0 (r : Region) : (s.disturb r).arg0 = s.arg0 := rfl
@[simp] theorem State.disturb_arg1 (r : Region) : (s.disturb r).arg1 = s.arg1 := rfl
@[simp] theorem State.disturb_arg2 (r : Region) : (s.disturb r).arg2 = s.arg2 := rfl
@[simp] theorem State.disturb_arg3 (r : Region) : (s.disturb r).arg3 = s.arg3 := rfl
@[simp] theorem State.disturb_res0 (r : Region) : (s.disturb r).res0 = s.res0 := rfl
@[simp] theorem State.disturb_res1 (r : Region) : (s.disturb r).res1 = s.res1 := rfl
@[simp] theorem State.disturb_res2 (r : Region) : (s.disturb r).res2 = s.res2 := rfl
@[simp] theorem State.disturb_res3 (r : Region) : (s.disturb r).res3 = s.res3 := rfl
@[simp] theorem State.disturb_diagSmall (r : Region) : (s.disturb r).diagSmall = s.diagSmall := rfl
@[simp] theorem State.disturb_diagMedium (r : Region) : (s.disturb r).diagMedium = s.diagMedium := rfl
@[simp] theorem State.disturb_diagFull (r : Region) : (s.disturb r).diagFull = s.diagFull := rfl
@[simp] theorem State.disturb_diagRuns (r : Region) : (s.disturb r).diagRuns = s.diagRuns := rfl
@[simp] theorem State.disturb_diagSat (r : Region) : (s.disturb r).diagSat = s.diagSat := rfl
@[simp] theorem State.disturb_platform (r : Region) : (s.disturb r).platform = s.platform := rfl
@[simp] theorem State.disturb_inbox (r : Region) : (s.disturb r).inbox = s.inbox := rfl
@[simp] theorem State.disturb_hostData (r : Region) : (s.disturb r).hostData = s.hostData := rfl
@[simp] theorem State.disturb_reading (r : Region) : (s.disturb r).reading = s.reading := rfl
@[simp] theorem State.disturb_mem (r : Region) : (s.disturb r).mem = (s.scramble r).mem := rfl
@[simp] theorem State.disturb_ctxs (r : Region) : (s.disturb r).ctxs = s.ctxs.map (Ctx.noteChanges r) := rfl
@[simp] theorem State.disturb_freeTick (r : Region) : (s.disturb r).freeTick = s.freeTick + 1 := rfl
@[simp] theorem State.settle_cmd (d r : Region) : (s.settle d r).cmd = s.cmd := rfl
@[simp] theorem State.settle_err (d r : Region) : (s.settle d r).err = s.err := rfl
@[simp] theorem State.settle_arg0 (d r : Region) : (s.settle d r).arg0 = s.arg0 := rfl
@[simp] theorem State.settle_arg1 (d r : Region) : (s.settle d r).arg1 = s.arg1 := rfl
@[simp] theorem State.settle_arg2 (d r : Region) : (s.settle d r).arg2 = s.arg2 := rfl
@[simp] theorem State.settle_arg3 (d r : Region) : (s.settle d r).arg3 = s.arg3 := rfl
@[simp] theorem State.settle_res0 (d r : Region) : (s.settle d r).res0 = s.res0 := rfl
@[simp] theorem State.settle_res1 (d r : Region) : (s.settle d r).res1 = s.res1 := rfl
@[simp] theorem State.settle_res2 (d r : Region) : (s.settle d r).res2 = s.res2 := rfl
@[simp] theorem State.settle_res3 (d r : Region) : (s.settle d r).res3 = s.res3 := rfl
@[simp] theorem State.settle_diagSmall (d r : Region) : (s.settle d r).diagSmall = s.diagSmall := rfl
@[simp] theorem State.settle_diagMedium (d r : Region) : (s.settle d r).diagMedium = s.diagMedium := rfl
@[simp] theorem State.settle_diagFull (d r : Region) : (s.settle d r).diagFull = s.diagFull := rfl
@[simp] theorem State.settle_diagRuns (d r : Region) : (s.settle d r).diagRuns = s.diagRuns := rfl
@[simp] theorem State.settle_diagSat (d r : Region) : (s.settle d r).diagSat = s.diagSat := rfl
@[simp] theorem State.settle_platform (d r : Region) : (s.settle d r).platform = s.platform := rfl
@[simp] theorem State.settle_inbox (d r : Region) : (s.settle d r).inbox = s.inbox := rfl
@[simp] theorem State.settle_hostData (d r : Region) : (s.settle d r).hostData = s.hostData := rfl
@[simp] theorem State.settle_reading (d r : Region) : (s.settle d r).reading = s.reading := rfl
@[simp] theorem State.settle_ctxs (d r : Region) : (s.settle d r).ctxs = s.ctxs.map (Ctx.noteChanges r) := rfl

/-! ### staleAfter -/

@[simp] theorem Ctx.staleAfter_st (cx : Ctx) (left tick : Nat) : (cx.staleAfter left tick).st = cx.st := rfl
@[simp] theorem Ctx.staleAfter_base (cx : Ctx) (left tick : Nat) : (cx.staleAfter left tick).base = cx.base := rfl
@[simp] theorem Ctx.staleAfter_len (cx : Ctx) (left tick : Nat) : (cx.staleAfter left tick).len = cx.len := rfl
@[simp] theorem Ctx.staleAfter_frames (cx : Ctx) (left tick : Nat) : (cx.staleAfter left tick).frames = cx.frames := rfl
@[simp] theorem Ctx.staleAfter_rate (cx : Ctx) (left tick : Nat) : (cx.staleAfter left tick).rate = cx.rate := rfl
@[simp] theorem Ctx.staleAfter_stereo (cx : Ctx) (left tick : Nat) : (cx.staleAfter left tick).stereo = cx.stereo := rfl
@[simp] theorem Ctx.staleAfter_lossy (cx : Ctx) (left tick : Nat) : (cx.staleAfter left tick).lossy = cx.lossy := rfl
@[simp] theorem Ctx.staleAfter_total (cx : Ctx) (left tick : Nat) : (cx.staleAfter left tick).total = cx.total := rfl
@[simp] theorem Ctx.staleAfter_remaining (cx : Ctx) (left tick : Nat) : (cx.staleAfter left tick).remaining = cx.remaining := rfl
@[simp] theorem Ctx.staleAfter_pos (cx : Ctx) (left tick : Nat) : (cx.staleAfter left tick).pos = cx.pos := rfl
@[simp] theorem Ctx.staleAfter_n (cx : Ctx) (left tick : Nat) : (cx.staleAfter left tick).n = cx.n := rfl
@[simp] theorem Ctx.staleAfter_stale (cx : Ctx) (left tick : Nat) : (cx.staleAfter left tick).stale = cx.stale := rfl
@[simp] theorem Ctx.staleAfter_unit (cx : Ctx) (left tick : Nat) :
    (cx.staleAfter left tick).unit = (passFrames cx left).unit := rfl
@[simp] theorem Ctx.staleAfter_ovfLen (cx : Ctx) (left tick : Nat) :
    (cx.staleAfter left tick).ovfLen = (passFrames cx left).ovfLen := rfl
@[simp] theorem Ctx.staleAfter_ovfOff (cx : Ctx) (left tick : Nat) :
    (cx.staleAfter left tick).ovfOff = (passFrames cx left).ovfOff := rfl
@[simp] theorem Ctx.staleAfter_key (cx : Ctx) (left tick : Nat) :
    (cx.staleAfter left tick).key = (cx.scramble tick).key := rfl
@[simp] theorem Ctx.staleAfter_acc (cx : Ctx) (left tick : Nat) :
    (cx.staleAfter left tick).acc = (cx.scramble tick).acc := rfl
@[simp] theorem Ctx.staleAfter_runType (cx : Ctx) (left tick : Nat) :
    (cx.staleAfter left tick).runType = (cx.scramble tick).runType := rfl
@[simp] theorem Ctx.staleAfter_runLeft (cx : Ctx) (left tick : Nat) :
    (cx.staleAfter left tick).runLeft = (cx.scramble tick).runLeft := rfl
@[simp] theorem Ctx.staleAfter_ovf (cx : Ctx) (left tick : Nat) :
    (cx.staleAfter left tick).ovf = (cx.scramble tick).ovf := rfl
@[simp] theorem Ctx.staleAfter_cursor (cx : Ctx) (left tick : Nat) :
    (cx.staleAfter left tick).cursor = BitVec.ofNat 32 ((Config.freeWord tick 2).toNat % (cx.len.toNat + 1)) := rfl

/-- The cursor of a changed stream stays in its stream region (R33). -/
theorem Ctx.staleAfter_cursor_le (cx : Ctx) (left tick : Nat) :
    (cx.staleAfter left tick).cursor.toNat ≤ cx.len.toNat := by
  rw [Ctx.staleAfter_cursor, BitVec.toNat_ofNat]
  exact (Nat.mod_le _ _).trans (Nat.lt_succ_iff.mp (Nat.mod_lt _ (Nat.succ_pos _)))

/-! ### Lists of contexts -/

/-- A write of a context keeps the number of contexts (R33). -/
@[simp] theorem State.setCtx_numCtx (c : Nat) (cx : Ctx) : (s.setCtx c cx).numCtx = s.numCtx := by
  simp [State.numCtx]

/-- A write of context `c` leaves every other context alone (R141). -/
theorem State.setCtx_other (c j : Nat) (cx : Ctx) (h : j ≠ c) : (s.setCtx c cx).ctxs[j]? = s.ctxs[j]? := by
  simp [h.symm]

/-- A write of an existing context is read back. -/
theorem State.setCtx_same (c : Nat) (cx : Ctx) (h : c < s.ctxs.length) : (s.setCtx c cx).ctxs[c]? = some cx := by
  simp [h]

end Sys2Proof.Machine
end

