-- ==== Sys2Proof/Laws/Commands.lean ====
section
/-! SUPPORT. For each shared operation and each meaning, once, everything it can answer: the proofs cite these lemmas
instead of unfolding the definitions. -/

namespace Sys2Proof.Machine

variable {s t : State}

/-- NOP answers one state. -/
theorem execNop_next (h : execNop s = .next t) : t = s.finish := by
  simpa [execNop] using h.symm

/-- HDR_WRITE ends with an error of its checks, or writes the preamble. -/
theorem execHdrWrite_next {stereo lossy : Bool} (h : execHdrWrite stereo lossy s = .next t) :
    (∃ e, hdrCheck s = .error e ∧ t = s.raise e) ∨
    (hdrCheck s = .ok () ∧
      t = ((s.store s.arg0.toNat (preambleOf s.arg1 s.arg2 stereo lossy)).setRes0 Config.preambleBytes).finish) := by
  unfold execHdrWrite at h
  split at h
  · exact .inl ⟨_, ‹_›, by simpa using h.symm⟩
  · exact .inr ⟨‹_›, by simpa using h.symm⟩

/-- CVT_F32 ends with an error of its checks, or writes the samples. -/
theorem execCvtF32_next (h : execCvtF32 s = .next t) :
    (∃ e, cvtCheck s = .error e ∧ t = s.raise e) ∨
    (cvtCheck s = .ok () ∧
      t = ((s.store s.arg1.toNat (cvtBytes s.mem s.arg0.toNat s.arg2.toNat)).setRes0 s.arg2.toNat).finish) := by
  unfold execCvtF32 at h
  split at h
  · exact .inl ⟨_, ‹_›, by simpa using h.symm⟩
  · exact .inr ⟨‹_›, by simpa using h.symm⟩

/-- ENC_FR ends with an error of its checks, or writes the body. -/
theorem execEncFr_next {stereo : Bool} (h : execEncFr stereo s = .next t) :
    (∃ e, encFrCheck stereo s = .error e ∧ t = s.raise e) ∨
    (encFrCheck stereo s = .ok () ∧
      t = (((s.store s.arg1.toNat (encFrBody stereo s)).setRes0 (encFrSize stereo s)).setRes1
        (frChunks s.arg2.toNat)).finish) := by
  unfold execEncFr at h
  split at h
  · exact .inl ⟨_, ‹_›, by simpa using h.symm⟩
  · exact .inr ⟨‹_›, by simpa using h.symm⟩

/-- ENC_AD ends with an error of its checks, or writes the body and the counters. -/
theorem execEncAd_next {stereo : Bool} (h : execEncAd stereo s = .next t) :
    (∃ e, encAdCheck stereo s = .error e ∧ t = s.raise e) ∨
    (encAdCheck stereo s = .ok () ∧
      t = ((((s.store s.arg1.toNat (encAdBody stereo s)).setRes0 (encAdBody stereo s).length).setRes1
        (adChunkCount s.arg2.toNat)).setAdDiag (encAdChunks stereo s) (encAdRuns stereo s)).finish) := by
  unfold execEncAd at h
  split at h
  · exact .inl ⟨_, ‹_›, by simpa using h.symm⟩
  · exact .inr ⟨‹_›, by simpa using h.symm⟩

/-- DEC_OPEN ends with an error of its checks, or opens the context. -/
theorem execDecOpen_next {c : Nat} (h : execDecOpen c s = .next t) :
    (∃ e, decOpenCheck c s = .error e ∧ t = s.raise e) ∨
    (∃ p, decOpenCheck c s = .ok p ∧
      t = (((((s.setCtx c (openedCtx s.mem s.arg0 s.arg1 p)).setRes0 p.frames.toNat).setRes1 p.rate.toNat).setRes2
        (openFlags p)).setRes3 (totalFrames p)).finish) := by
  unfold execDecOpen at h
  split at h
  · exact .inl ⟨_, ‹_›, by simpa using h.symm⟩
  · exact .inr ⟨_, ‹_›, by simpa using h.symm⟩

/-- DEC_READ ends with an error of its checks, reads a changed stream, meets a stream error, or delivers frames. -/
theorem execDecRead_next {c : Nat} (h : execDecRead c s = .next t) :
    (∃ e, decReadCheck c s = .error e ∧ t = s.raise e) ∨
    (∃ cx k, decReadCheck c s = .ok (cx, k) ∧ cx.inSpace = true ∧
      ((cx.stale = true ∧ t = s.staleRead c cx s.arg0.toNat k k) ∨
       (cx.stale = false ∧ ∃ e, readFrames s.mem cx k = .error e ∧ t = s.failRead c cx s.arg0.toNat k e) ∨
       (cx.stale = false ∧ ∃ fs cx', readFrames s.mem cx k = .ok (fs, cx') ∧
         t = (s.store s.arg0.toNat (pcmBytes cx.stereo fs)).endRead c k cx'))) := by
  unfold execDecRead at h
  split at h
  · exact .inl ⟨_, ‹_›, by simpa using h.symm⟩
  · rename_i cx k hc
    refine .inr ⟨cx, k, hc, ?_⟩
    split at h
    · cases h
    · rename_i hs
      refine ⟨by simpa using hs, ?_⟩
      split at h
      · exact .inl ⟨‹_›, by simpa using h.symm⟩
      · rename_i hst
        have hst' : cx.stale = false := by simpa using hst
        split at h
        · exact .inr (.inl ⟨hst', _, ‹_›, by simpa using h.symm⟩)
        · exact .inr (.inr ⟨hst', _, _, ‹_›, by simpa using h.symm⟩)

/-- DEC_RESET ends with an error of its check, or rewinds the context. -/
theorem execDecReset_next {c : Nat} (h : execDecReset c s = .next t) :
    (∃ e, openCtxCheck c s = .error e ∧ t = s.raise e) ∨
    (∃ cx, openCtxCheck c s = .ok cx ∧ cx.inSpace = true ∧
      t = ((s.setCtx c (cx.rewind s.mem)).setRes0 cx.total.toNat).finish) := by
  unfold execDecReset at h
  split at h
  · exact .inl ⟨_, ‹_›, by simpa using h.symm⟩
  · rename_i cx hc
    split at h
    · cases h
    · rename_i hs
      exact .inr ⟨cx, hc, by simpa using hs, by simpa using h.symm⟩

/-- DEC_CLOSE ends with an error of its check, or closes the context. -/
theorem execDecClose_next {c : Nat} (h : execDecClose c s = .next t) :
    (∃ e, openCtxCheck c s = .error e ∧ t = s.raise e) ∨
    (∃ cx, openCtxCheck c s = .ok cx ∧ t = (s.setCtx c Ctx.closed).finish) := by
  unfold execDecClose at h
  split at h
  · exact .inl ⟨_, ‹_›, by simpa using h.symm⟩
  · exact .inr ⟨_, ‹_›, by simpa using h.symm⟩

/-- A run header needs a read that waits for one; then its unit ends. -/
theorem runHeader_next {ty : Option AdType} {extra : Nat} (h : runHeader ty extra s = .next t) :
    ∃ job cx, s.awaitsHeader = some (job, cx) ∧ cx.inSpace = true ∧
      t = s.endUnit job cx (advanceUnit (adHeaderUnit s.mem cx ty extra)) := by
  unfold runHeader at h
  split at h
  · cases h
  · rename_i job cx hw
    split at h
    · cases h
    · rename_i hs
      exact ⟨job, cx, hw, by simpa using hs, by simpa using h.symm⟩

/-- A stale read is one of three: frames of free bytes, or one of the two stream errors (R171). -/
theorem staleRead_cases (s : State) (c : Nat) (cx : Ctx) (dst k left : Nat) :
    s.staleRead c cx dst k left =
      (s.scramble (readRegion cx.stereo dst k)).endRead c k (cx.staleAfter left s.freeTick) ∨
    s.staleRead c cx dst k left = s.failRead c cx dst k .truncated ∨
    s.staleRead c cx dst k left = s.failRead c cx dst k .malformed := by
  unfold State.staleRead
  split <;> simp

/-- What passes DEC_READ's checks (R134). -/
theorem decReadCheck_ok {c : Nat} {cx : Ctx} {k : Nat} (h : decReadCheck c s = .ok (cx, k)) :
    s.ctxs[c]? = some cx ∧ cx.st ≠ .closed ∧ cx.st ≠ .faulted ∧ k = deliverCount cx s.arg2 ∧
      2 * channels cx.stereo * s.arg2.toNat ≤ s.arg1.toNat ∧
      s.valid (readRegion cx.stereo s.arg0.toNat k) = true ∧
      s.overlapsOpen (readRegion cx.stereo s.arg0.toNat k) = false := by
  unfold decReadCheck at h
  split at h
  · cases h
  · rename_i cx' hc
    dsimp only at h
    split at h
    · cases h
    split at h
    · cases h
    split at h
    · cases h
    split at h
    · cases h
    split at h
    · cases h
    rename_i h1 h2 h3 h4 h5
    simp only [Except.ok.injEq, Prod.mk.injEq] at h
    obtain ⟨rfl, rfl⟩ := h
    exact ⟨hc, h1, h2, rfl, by omega, by simpa using h4, by simpa using h5⟩

/-- What passes DEC_OPEN's checks (R131). -/
theorem decOpenCheck_ok {c : Nat} {p : Preamble} (h : decOpenCheck c s = .ok p) :
    (∃ cx, s.ctxs[c]? = some cx ∧ cx.st = .closed) ∧ p = readPreamble s.mem s.arg0.toNat ∧
      s.valid ⟨s.arg0.toNat, s.arg1.toNat⟩ = true ∧ Config.preambleBytes ≤ s.arg1.toNat ∧ p.frames ≠ 0 ∧
      (p.lossy = true → Config.preambleBytes + 2 * channels p.stereo ≤ s.arg1.toNat) := by
  unfold decOpenCheck at h
  split at h
  · cases h
  · rename_i cx hc
    dsimp only at h
    split at h
    · cases h
    split at h
    · cases h
    split at h
    · cases h
    split at h
    · cases h
    split at h
    · cases h
    rename_i h1 h2 h3 h4 h5
    simp only [Except.ok.injEq] at h
    subst h
    refine ⟨⟨cx, hc, by simpa using h1⟩, rfl, by simpa using h2, by omega, h4, fun hl => ?_⟩
    by_contra hlt
    exact h5 ⟨hl, by omega⟩

/-- What passes the check of DEC_RESET and DEC_CLOSE. -/
theorem openCtxCheck_ok {c : Nat} {cx : Ctx} (h : openCtxCheck c s = .ok cx) :
    s.ctxs[c]? = some cx ∧ cx.st ≠ .closed := by
  unfold openCtxCheck at h
  split at h
  · cases h
  · rename_i cx' hc
    split at h
    · cases h
    · simp only [Except.ok.injEq] at h
      subst h
      exact ⟨hc, ‹_›⟩

/-- R45: a valid region of at least one byte lies in the address space. -/
theorem valid_inSpace {r : Region} (h : s.valid r = true) (hn : 0 < r.size) : r.base + r.size ≤ Config.addrSpace := by
  simp only [State.valid, Bool.or_eq_true, Bool.and_eq_true, decide_eq_true_eq] at h
  omega

/-- R47: no byte lies in two regions that do not overlap. -/
theorem not_overlaps {r q : Region} (h : r.overlaps q = false) (a : Nat) (ha : r.base ≤ a ∧ a < r.base + r.size) :
    ¬ (q.base ≤ a ∧ a < q.base + q.size) := by
  intro hq
  simp only [Region.overlaps, Bool.and_eq_false_imp, Bool.and_eq_true, decide_eq_true_eq, decide_eq_false_iff_not] at h
  have := h
  omega

/-- R54 (c): a region that overlaps no open stream does not overlap the stream of an open context. -/
theorem overlapsOpen_false {r : Region} (h : s.overlapsOpen r = false) {c : Nat} {cx : Ctx}
    (hc : s.ctxs[c]? = some cx) (ho : cx.st ≠ .closed) : r.overlaps cx.region = false := by
  simp only [State.overlapsOpen, List.any_eq_false] at h
  have := h cx (List.mem_of_getElem? hc)
  simpa [ho] using this

end Sys2Proof.Machine
end

