-- ==== Sys2Proof/Laws/Memory.lean ====
section
/-! SUPPORT. The laws of memory: what a read gives after a write, and that every memory operation keeps the canonical
form. -/

namespace Sys2Proof.Machine

open Config (addrSpace)

/-! ### One byte -/

@[simp] theorem readByte_nil (a : Nat) : readByte [] a = unlistedByte := rfl

theorem readByte_cons (k : Nat) (v : Byte) (m : List Host.Cell) (a : Nat) :
    readByte ((k, v) :: m) a = if k = a then v else readByte m a := rfl

/-- Dropping an address's cells makes it read as unlisted and leaves every other address alone. -/
theorem readByte_filter (m : List Host.Cell) (a b : Nat) :
    readByte (m.filter fun c => c.1 != a) b = if b = a then unlistedByte else readByte m b := by
  induction m with
  | nil => simp
  | cons c m ih =>
    obtain ⟨k, v⟩ := c
    by_cases hk : k = a
    · subst hk
      by_cases hb : b = k
      · subst hb; simpa using ih
      · simpa [readByte_cons, hb, Ne.symm hb] using ih
    · by_cases hb : b = a
      · subst hb; simpa [readByte_cons, hk] using ih
      · by_cases hkb : k = b <;> simp [readByte_cons, hk, hb, hkb, ih]

/-- A cell put into a list that does not read its address yet. -/
theorem readByte_insertCell (m : List Host.Cell) (a b : Nat) (v : Byte) (h : ∀ c ∈ m, c.1 ≠ a) :
    readByte (insertCell a v m) b = if b = a then v else readByte m b := by
  induction m with
  | nil => by_cases hb : b = a <;> simp [insertCell, readByte_cons, hb, Ne.symm]
  | cons c m ih =>
    obtain ⟨k, w⟩ := c
    have hk : k ≠ a := h (k, w) (by simp)
    have ih' := ih fun c hc => h c (by simp [hc])
    unfold insertCell
    by_cases hlt : a < k
    · by_cases hb : b = a
      · simp [hlt, readByte_cons, hb]
      · simp [hlt, readByte_cons, hb, Ne.symm hb]
    · by_cases hb : b = a
      · subst hb; simp [hlt, readByte_cons, hk, ih']
      · rw [if_neg hlt, readByte_cons, readByte_cons, ih', if_neg hb, if_neg hb]

/-- R12: a byte read after a byte is written. It holds of every list of cells, canonical or not. -/
theorem readByte_writeByte (m : List Host.Cell) (a b : Nat) (v : Byte) :
    readByte (writeByte m a v) b = if b = a then v else readByte m b := by
  unfold writeByte
  by_cases hv : v = unlistedByte
  · simp only [hv, if_true, readByte_filter]
  · simp only [hv, if_false]
    rw [readByte_insertCell _ _ _ _ (by simp), readByte_filter]
    by_cases hb : b = a <;> simp [hb]

/-! ### Lists of bytes -/

/-- R12, R53: a write leaves the bytes outside its region alone. -/
theorem readByte_writeBytes_outside (bs : List Byte) (m : List Host.Cell) (a b : Nat)
    (h : b < a ∨ a + bs.length ≤ b) : readByte (writeBytes m a bs) b = readByte m b := by
  induction bs generalizing m a with
  | nil => rfl
  | cons v bs ih =>
    simp only [List.length_cons] at h
    rw [writeBytes, ih _ _ (by omega), readByte_writeByte, if_neg (by omega)]

/-- R12, R53: a write's bytes are read back in order. -/
theorem readByte_writeBytes_inside (bs : List Byte) (m : List Host.Cell) (a i : Nat) (h : i < bs.length) :
    readByte (writeBytes m a bs) (a + i) = bs[i] := by
  induction bs generalizing m a i with
  | nil => simp at h
  | cons v bs ih =>
    rw [writeBytes]
    cases i with
    | zero =>
      rw [readByte_writeBytes_outside _ _ _ _ (by omega), readByte_writeByte]
      simp
    | succ i =>
      have hi : i < bs.length := by simpa using h
      have := ih (writeByte m a v) (a + 1) i hi
      rw [show a + (i + 1) = a + 1 + i by omega, this]
      simp

/-- R12: the bytes just written are read back. -/
theorem readBytes_writeBytes (bs : List Byte) (m : List Host.Cell) (a : Nat) :
    readBytes (writeBytes m a bs) a bs.length = bs := by
  apply List.ext_getElem
  · simp [readBytes]
  · intro i h1 h2
    simp only [readBytes, List.getElem_map, List.getElem_range]
    exact readByte_writeBytes_inside bs m a i h2

@[simp] theorem readBytes_length (m : List Host.Cell) (a n : Nat) : (readBytes m a n).length = n := by
  simp [readBytes]

/-- A write of two lists one after the other. -/
theorem writeBytes_append (xs ys : List Byte) (m : List Host.Cell) (a : Nat) :
    writeBytes m a (xs ++ ys) = writeBytes (writeBytes m a xs) (a + xs.length) ys := by
  induction xs generalizing m a with
  | nil => rfl
  | cons x xs ih =>
    simp only [List.cons_append, writeBytes, ih, List.length_cons]
    congr 1
    omega

/-! ### The canonical form -/

theorem memWf_cons (k : Nat) (v : Byte) (m : List Host.Cell) :
    memWf ((k, v) :: m) = true ↔ v ≠ unlistedByte ∧ (∀ c ∈ m, k < c.1) ∧ memWf m = true := by
  simp [memWf, and_assoc]

theorem memWf_filter (p : Host.Cell → Bool) (m : List Host.Cell) (h : memWf m = true) : memWf (m.filter p) = true := by
  induction m with
  | nil => rfl
  | cons c m ih =>
    obtain ⟨k, v⟩ := c
    obtain ⟨hv, hk, hm⟩ := (memWf_cons k v m).1 h
    by_cases hp : p (k, v)
    · rw [List.filter_cons_of_pos hp, memWf_cons]
      exact ⟨hv, fun c hc => hk c (List.mem_of_mem_filter hc), ih hm⟩
    · rw [List.filter_cons_of_neg hp]
      exact ih hm

theorem mem_insertCell (m : List Host.Cell) (a : Nat) (v : Byte) (c : Host.Cell) :
    c ∈ insertCell a v m ↔ c = (a, v) ∨ c ∈ m := by
  induction m with
  | nil => simp [insertCell]
  | cons d m ih =>
    obtain ⟨k, w⟩ := d
    unfold insertCell
    split
    · simp
    · simp only [List.mem_cons, ih]
      tauto

theorem memWf_insertCell (m : List Host.Cell) (a : Nat) (v : Byte) (hv : v ≠ unlistedByte) (ha : ∀ c ∈ m, c.1 ≠ a)
    (h : memWf m = true) : memWf (insertCell a v m) = true := by
  induction m with
  | nil => simp [insertCell, memWf, hv]
  | cons c m ih =>
    obtain ⟨k, w⟩ := c
    obtain ⟨hw, hk, hm⟩ := (memWf_cons k w m).1 h
    have hka : k ≠ a := ha (k, w) (by simp)
    unfold insertCell
    split
    · rename_i hlt
      refine (memWf_cons _ _ _).2 ⟨hv, fun c hc => ?_, h⟩
      rcases List.mem_cons.1 hc with rfl | hc
      · exact hlt
      · exact lt_trans hlt (hk c hc)
    · rename_i hlt
      refine (memWf_cons _ _ _).2 ⟨hw, fun c hc => ?_, ih (fun c hc => ha c (by simp [hc])) hm⟩
      rcases (mem_insertCell m a v c).1 hc with rfl | hc
      · exact lt_of_le_of_ne (not_lt.1 hlt) hka
      · exact hk c hc

/-- A byte's write keeps the canonical form. -/
theorem memWf_writeByte (m : List Host.Cell) (a : Nat) (v : Byte) (h : memWf m = true) :
    memWf (writeByte m a v) = true := by
  unfold writeByte
  by_cases hv : v = unlistedByte
  · simpa [hv] using memWf_filter _ m h
  · simp only [hv, if_false]
    exact memWf_insertCell _ _ _ hv (by simp) (memWf_filter _ m h)

/-- A write keeps the canonical form. -/
theorem memWf_writeBytes (bs : List Byte) (m : List Host.Cell) (a : Nat) (h : memWf m = true) :
    memWf (writeBytes m a bs) = true := by
  induction bs generalizing m a with
  | nil => exact h
  | cons v bs ih => exact ih _ _ (memWf_writeByte m a v h)

theorem memInSpace_iff (m : List Host.Cell) : memInSpace m = true ↔ ∀ c ∈ m, c.1 < addrSpace := by
  simp [memInSpace]

/-- A byte's write at an existing address lists no other address. -/
theorem memInSpace_writeByte (m : List Host.Cell) (a : Nat) (v : Byte) (ha : a < addrSpace)
    (h : memInSpace m = true) : memInSpace (writeByte m a v) = true := by
  rw [memInSpace_iff] at h ⊢
  have hf : ∀ c ∈ m.filter fun c => c.1 != a, c.1 < addrSpace := fun c hc => h c (List.mem_of_mem_filter hc)
  intro c hc
  unfold writeByte at hc
  by_cases hv : v = unlistedByte
  · exact hf c (by simpa [hv] using hc)
  · simp only [hv, if_false] at hc
    rcases (mem_insertCell _ _ _ _).1 hc with rfl | hc
    · exact ha
    · exact hf c hc

/-- R45: a write inside the address space lists no address outside it. -/
theorem memInSpace_writeBytes (bs : List Byte) (m : List Host.Cell) (a : Nat) (ha : a + bs.length ≤ addrSpace)
    (h : memInSpace m = true) : memInSpace (writeBytes m a bs) = true := by
  induction bs generalizing m a with
  | nil => exact h
  | cons v bs ih =>
    simp only [List.length_cons] at ha
    exact ih _ _ (by omega) (memInSpace_writeByte m a v (by omega) h)

/-- The memory after reset is in canonical form. -/
theorem reset_memWf : memWf State.reset.mem = true ∧ memInSpace State.reset.mem = true := ⟨rfl, rfl⟩

/-! ### Little-endian values -/

@[simp] theorem leBytes_length (n v : Nat) : (leBytes n v).length = n := by simp [leBytes]

@[simp] theorem sampleBytes_length (x : Sample) : (sampleBytes x).length = 2 := by simp [sampleBytes]

@[simp] theorem freeBytes_length (tick n : Nat) : (freeBytes tick n).length = n := by simp [freeBytes]

@[simp] theorem channels_true : channels true = 2 := rfl

@[simp] theorem channels_false : channels false = 1 := rfl

@[simp] theorem frameBytes_length (stereo : Bool) (f : Frame) : (frameBytes stereo f).length = 2 * channels stereo := by
  cases stereo <;> simp [frameBytes, Frame.samples, List.range_succ]

@[simp] theorem pcmBytes_length (stereo : Bool) (fs : List Frame) :
    (pcmBytes stereo fs).length = 2 * channels stereo * fs.length := by
  induction fs with
  | nil => simp [pcmBytes]
  | cons f fs ih =>
    have : (pcmBytes stereo (f :: fs)) = frameBytes stereo f ++ pcmBytes stereo fs := by simp [pcmBytes]
    rw [this, List.length_append, ih, frameBytes_length, List.length_cons, Nat.mul_succ]
    omega

/-- R48: a value of `n` bytes read back from its bytes. -/
theorem leNat_leBytes (n v : Nat) : leNat (leBytes n v) = v % 256 ^ n := by
  induction n generalizing v with
  | zero => simp [leBytes, leNat, Nat.mod_one]
  | succ n ih =>
    have hsplit : leBytes (n + 1) v = BitVec.ofNat 8 v :: leBytes n (v / 256) := by
      simp only [leBytes, List.range_succ_eq_map, List.map_cons, List.map_map, pow_zero, Nat.div_one]
      congr 1
      apply List.map_congr_left
      intro i _
      simp [Nat.div_div_eq_div_mul, pow_succ']
    rw [hsplit, leNat, ih, BitVec.toNat_ofNat, show (2 : Nat) ^ 8 = 256 by norm_num, pow_succ' 256 n,
      Nat.mod_mul]

/-- R77: a sample read back from its bytes. -/
theorem leNat_sampleBytes (x : Sample) : leNat (sampleBytes x) = x.toNat := by
  have h : x.toNat < 256 ^ 2 := by simpa using x.isLt
  rw [sampleBytes, leNat_leBytes, Nat.mod_eq_of_lt h]

end Sys2Proof.Machine
end

