-- ==== Sys2Proof/Laws/PerInstr.lean ====
section
/-! SUPPORT. The family of per-instruction lemmas `EncodingFits`: the encoding of a well-formed instruction has 32 bits
(R65, R71) or 8 bits (R88), its value fits them, and its opcode or type field is the one of its row (R68, R92). -/

namespace Sys2Proof.Laws.EncodingFits

/-- The low field of an encoding that tells the instructions of its format apart: OP of a command word, type of a run
header. -/
def selector (e : Encoding) : Nat := if e.nbits = 32 then bitField e.bits 0 8 else 64 * bitField e.bits 6 2

/-- The selector of each row of spec/opcode_table.json. -/
def rowSelector : Instr → Nat
  | .nop => 0x00
  | .cvtF32 => 0x01
  | .hdrWrite _ _ => 0x02
  | .encFr _ => 0x10
  | .encAd _ => 0x11
  | .decOpen _ => 0x20
  | .decRead _ => 0x21
  | .decReset _ => 0x22
  | .decClose _ => 0x23
  | .adSmall _ => 0x00
  | .adMedium _ => 0x40
  | .adFull _ => 0x80
  | .adReserved _ => 0xC0

/-- A well-formed instruction's encoding has a legal length, fits it, and carries its row's selector. -/
def Statement (i : Instr) : Prop :=
  i.wf = true →
    ((encode i).nbits = 32 ∨ (encode i).nbits = 8) ∧ (encode i).bits < 2 ^ (encode i).nbits ∧
      selector (encode i) = rowSelector i

theorem nop : Statement .nop := by unfold Statement; decide

theorem cvtF32 : Statement .cvtF32 := by unfold Statement; decide

theorem hdrWrite (stereo lossy : Bool) : Statement (.hdrWrite stereo lossy) := by
  unfold Statement; cases stereo <;> cases lossy <;> decide

theorem encFr (stereo : Bool) : Statement (.encFr stereo) := by unfold Statement; cases stereo <;> decide

theorem encAd (stereo : Bool) : Statement (.encAd stereo) := by unfold Statement; cases stereo <;> decide

/-- A context number that fits is one of sixteen. -/
theorem ctx_lt {ctx : Nat} (h : ctxFits ctx = true) : ctx < 16 := by simpa [ctxFits] using h

/-- A run length field that fits is one of sixty-four. -/
theorem extra_lt {extra : Nat} (h : extraFits extra = true) : extra < 64 := by simpa [extraFits] using h

/-- The sixteen words of a DEC_* opcode. -/
theorem ctx_words : ∀ op ∈ ctxOpcodes, ∀ ctx < 16,
    (commandWord op ctx false false).toNat < 2 ^ 32 ∧ bitField (commandWord op ctx false false).toNat 0 8 = op := by
  decide

/-- The sixty-four bytes of a run-header type. -/
theorem header_bytes : ∀ type < 4, ∀ extra < 64,
    (runHeaderByte type extra).toNat < 2 ^ 8 ∧ 64 * bitField (runHeaderByte type extra).toNat 6 2 = 64 * type := by
  decide

theorem decOpen (ctx : Nat) : Statement (.decOpen ctx) := fun h =>
  have w := ctx_words 0x20 (by decide) ctx (ctx_lt h)
  ⟨.inl rfl, w.1, w.2⟩

theorem decRead (ctx : Nat) : Statement (.decRead ctx) := fun h =>
  have w := ctx_words 0x21 (by decide) ctx (ctx_lt h)
  ⟨.inl rfl, w.1, w.2⟩

theorem decReset (ctx : Nat) : Statement (.decReset ctx) := fun h =>
  have w := ctx_words 0x22 (by decide) ctx (ctx_lt h)
  ⟨.inl rfl, w.1, w.2⟩

theorem decClose (ctx : Nat) : Statement (.decClose ctx) := fun h =>
  have w := ctx_words 0x23 (by decide) ctx (ctx_lt h)
  ⟨.inl rfl, w.1, w.2⟩

theorem adSmall (extra : Nat) : Statement (.adSmall extra) := fun h =>
  have w := header_bytes 0 (by decide) extra (extra_lt h)
  ⟨.inr rfl, w.1, w.2⟩

theorem adMedium (extra : Nat) : Statement (.adMedium extra) := fun h =>
  have w := header_bytes 1 (by decide) extra (extra_lt h)
  ⟨.inr rfl, w.1, w.2⟩

theorem adFull (extra : Nat) : Statement (.adFull extra) := fun h =>
  have w := header_bytes 2 (by decide) extra (extra_lt h)
  ⟨.inr rfl, w.1, w.2⟩

theorem adReserved (extra : Nat) : Statement (.adReserved extra) := fun h =>
  have w := header_bytes 3 (by decide) extra (extra_lt h)
  ⟨.inr rfl, w.1, w.2⟩

end Sys2Proof.Laws.EncodingFits
end

