-- ==== Sys2Proof/Laws/Streaming.lean ====
section
/-! SUPPORT. What decoding a unit can do: how many frames it gives, which fields of the context it changes, and the same
of the loop of DEC_READ. -/

namespace Sys2Proof.Machine

variable {m : List Host.Cell} {cx cx' : Ctx} {fs : List Frame}

/-! ### Lengths -/

theorem integrateMono_length (prev : Sample) (ds : List Int) : (integrateMono prev ds).length = ds.length := by
  induction ds generalizing prev with
  | nil => rfl
  | cons d ds ih => simp [integrateMono, ih]

theorem integrateStereo_length (n : Nat) (prev : Frame) (ds : List Int) (h : ds.length = 2 * n) :
    (integrateStereo prev ds).length = n := by
  induction n generalizing prev ds with
  | zero => simp at h; simp [h, integrateStereo]
  | succ n ih =>
    match ds, h with
    | d0 :: d1 :: rest, h =>
      simp only [integrateStereo, List.length_cons]
      rw [ih]
      simp only [List.length_cons] at h
      omega

theorem smallDeltas_length (m : List Host.Cell) (c a : Nat) : (smallDeltas m c a).length = 8 * c := by
  simp [smallDeltas]

theorem mediumDeltas_length (m : List Host.Cell) (c a : Nat) : (mediumDeltas m c a).length = 8 * c := by
  simp only [mediumDeltas, List.length_flatMap, List.length_cons, List.length_nil, List.map_const', List.sum_replicate,
    List.length_range]
  simp only [smul_eq_mul]
  omega

theorem integrate_length (stereo : Bool) (prev : Frame) (ds : List Int) (h : ds.length = 8 * channels stereo) :
    (integrate stereo prev ds).length = 8 := by
  cases stereo
  · simpa [integrate, integrateMono_length] using h
  · simp only [integrate, if_true]
    exact integrateStereo_length 8 prev ds (by simpa using h)

/-- R121: an AD chunk has 8 frames. -/
@[simp] theorem adFrames_length (m : List Host.Cell) (stereo : Bool) (t : AdType) (a : Nat) (acc : Frame) :
    (adFrames m stereo t a acc).length = 8 := by
  cases t
  · exact integrate_length _ _ _ (smallDeltas_length _ _ _)
  · exact integrate_length _ _ _ (mediumDeltas_length _ _ _)
  · simp [adFrames, Config.adChunk]

/-! ### One unit -/

/-- R122: what the chunk rule answers. -/
theorem adPayloadUnit_ok {cur left : Nat} {t : AdType} (h : adPayloadUnit m cx cur t left = .ok (fs, cx')) :
    cur + t.width * channels cx.stereo ≤ cx.len.toNat ∧
      fs = adFrames m cx.stereo t (cx.base.toNat + cur) cx.acc ∧
      cx' = { cx with
        acc := fs.getLastD cx.acc, cursor := BitVec.ofNat 32 (cur + t.width * channels cx.stereo), runType := t,
        runLeft := left - 1 } := by
  simp only [adPayloadUnit] at h
  split at h
  · cases h
  · rename_i hl
    simp only [Except.ok.injEq, Prod.mk.injEq] at h
    obtain ⟨rfl, rfl⟩ := h
    exact ⟨by omega, rfl, rfl⟩

/-- R122: what the decoding of an AD unit answers: the chunk rule, after a header or within a run. -/
theorem adDecodeUnit_ok (h : adDecodeUnit m cx = .ok (fs, cx')) :
    (∃ b t, cx.runLeft = 0 ∧ fetchRunHeader m cx = some b ∧ AdType.ofCode (headerTypeField b) = some t ∧
      (cx.unit = 0 → t = .full) ∧
      adPayloadUnit m cx (cx.cursor.toNat + 1) t (headerExtraField b + 1) = .ok (fs, cx')) ∨
    (cx.runLeft ≠ 0 ∧ adPayloadUnit m cx cx.cursor.toNat cx.runType cx.runLeft = .ok (fs, cx')) := by
  simp only [adDecodeUnit] at h
  split at h
  · rename_i hr
    split at h
    · cases h
    · rename_i b hb
      simp only [adHeaderUnit] at h
      split at h
      · cases h
      · rename_i t ht
        split at h
        · cases h
        · rename_i hu
          exact .inl ⟨b, t, hr, hb, ht, fun h0 => by_contra fun hn => hu ⟨h0, hn⟩, h⟩
  · exact .inr ⟨‹_›, h⟩

/-- R106: what the decoding of an FR unit answers: the trailing key, or a chunk. -/
theorem frDecodeUnit_ok (h : frDecodeUnit m cx = .ok (fs, cx')) :
    (cx.n ≤ cx.unit ∧ fs = [cx.key] ∧ cx' = cx) ∨
    (¬ cx.n ≤ cx.unit ∧ cx.cursor.toNat + 5 * channels cx.stereo ≤ cx.len.toNat ∧ fs.length = 4 ∧
      cx' = { cx with
        key := readFrame m cx.stereo (cx.base.toNat + cx.cursor.toNat + 3 * channels cx.stereo),
        cursor := BitVec.ofNat 32 (cx.cursor.toNat + 5 * channels cx.stereo) }) := by
  simp only [frDecodeUnit] at h
  split at h
  · simp only [Except.ok.injEq, Prod.mk.injEq] at h
    exact .inl ⟨‹_›, h.1.symm, h.2.symm⟩
  · split at h
    · cases h
    · rename_i hn hl
      simp only [Except.ok.injEq, Prod.mk.injEq] at h
      exact .inr ⟨hn, by omega, by rw [← h.1]; simp, h.2.symm⟩

theorem advanceUnit_ok {r : Except ErrCode (List Frame × Ctx)} (h : advanceUnit r = .ok (fs, cx')) :
    ∃ cx1, r = .ok (fs, cx1) ∧ cx' = { cx1 with unit := cx1.unit + 1 } := by
  cases r with
  | error e => cases h
  | ok p =>
    obtain ⟨fs1, cx1⟩ := p
    simp only [advanceUnit, Except.ok.injEq, Prod.mk.injEq] at h
    exact ⟨cx1, by rw [h.1], h.2.symm⟩

/-- R129: one decoding step gives the frames of its unit. -/
theorem decodeUnit_length (h : decodeUnit m cx = .ok (fs, cx')) : fs.length = unitLen cx := by
  obtain ⟨cx1, h1, -⟩ := advanceUnit_ok h
  unfold unitLen
  split at h1
  · rename_i hl
    rcases frDecodeUnit_ok h1 with ⟨hn, rfl, -⟩ | ⟨hn, -, hf, -⟩ <;> simp [hl, hn]
    simpa [Config.frChunk] using hf
  · rename_i hl
    rcases adDecodeUnit_ok h1 with ⟨b, t, -, -, -, -, hp⟩ | ⟨-, hp⟩ <;>
    · obtain ⟨-, hfs, -⟩ := adPayloadUnit_ok hp
      simp [hl, hfs, Config.adChunk]

/-- A unit has at least one frame. -/
theorem unitLen_pos (cx : Ctx) : 0 < unitLen cx := by
  unfold unitLen
  split
  · split <;> simp [Config.frChunk]
  · simp [Config.adChunk]

/-- The fields that decoding does not change, all but the position, the borders and the scratch buffer. -/
def Ctx.sameStream (cx cx' : Ctx) : Prop :=
  cx'.st = cx.st ∧ cx'.base = cx.base ∧ cx'.len = cx.len ∧ cx'.frames = cx.frames ∧ cx'.rate = cx.rate ∧
    cx'.stereo = cx.stereo ∧ cx'.lossy = cx.lossy ∧ cx'.total = cx.total ∧ cx'.remaining = cx.remaining ∧
    cx'.pos = cx.pos ∧ cx'.n = cx.n ∧ cx'.stale = cx.stale

theorem Ctx.sameStream_refl (cx : Ctx) : cx.sameStream cx := by simp [Ctx.sameStream]

theorem Ctx.sameStream_trans {a b c : Ctx} (h : a.sameStream b) (h' : b.sameStream c) : a.sameStream c := by
  simp only [Ctx.sameStream] at *
  simp [h, h']

/-- R129, R141: one decoding step changes no other field. -/
theorem decodeUnit_sameStream (h : decodeUnit m cx = .ok (fs, cx')) : cx.sameStream cx' := by
  obtain ⟨cx1, h1, rfl⟩ := advanceUnit_ok h
  split at h1
  · rcases frDecodeUnit_ok h1 with ⟨-, -, rfl⟩ | ⟨-, -, -, rfl⟩ <;> simp [Ctx.sameStream]
  · rcases adDecodeUnit_ok h1 with ⟨b, t, -, -, -, -, hp⟩ | ⟨-, hp⟩ <;>
    · obtain ⟨-, -, rfl⟩ := adPayloadUnit_ok hp
      simp [Ctx.sameStream]

/-- R134: the loop of DEC_READ gives the frames asked for. -/
theorem decodeFrames_length (fuel : Nat) (need : Nat) (hf : need ≤ fuel)
    (h : decodeFrames m fuel cx need = .ok (fs, cx')) : fs.length = need := by
  induction fuel generalizing cx fs need with
  | zero =>
    simp only [decodeFrames, Except.ok.injEq, Prod.mk.injEq] at h
    simp [← h.1]; omega
  | succ fuel ih =>
    unfold decodeFrames at h
    split at h
    · rename_i h0
      simp only [Except.ok.injEq, Prod.mk.injEq] at h
      simp [← h.1, h0]
    · split at h
      · cases h
      · rename_i fs1 cx1 hu
        have hlen := decodeUnit_length hu
        have hpos := unitLen_pos cx
        split at h
        · split at h
          · cases h
          · rename_i rest cx2 hr
            simp only [Except.ok.injEq, Prod.mk.injEq] at h
            have := ih (need := need - fs1.length) (by omega) (h.2 ▸ hr)
            rw [← h.1, List.length_append, this]
            omega
        · simp only [Except.ok.injEq, Prod.mk.injEq] at h
          rw [← h.1, List.length_take]
          omega

/-- R134, R141: the loop of DEC_READ changes the position, the borders and the scratch buffer only. -/
theorem decodeFrames_sameStream (fuel : Nat) (need : Nat) (h : decodeFrames m fuel cx need = .ok (fs, cx')) :
    cx.sameStream cx' := by
  induction fuel generalizing cx fs need with
  | zero =>
    simp only [decodeFrames, Except.ok.injEq, Prod.mk.injEq] at h
    rw [← h.2]; exact cx.sameStream_refl
  | succ fuel ih =>
    unfold decodeFrames at h
    split at h
    · simp only [Except.ok.injEq, Prod.mk.injEq] at h
      rw [← h.2]; exact cx.sameStream_refl
    · split at h
      · cases h
      · rename_i fs1 cx1 hu
        have h1 := decodeUnit_sameStream hu
        split at h
        · split at h
          · cases h
          · rename_i rest cx2 hr
            simp only [Except.ok.injEq, Prod.mk.injEq] at h
            obtain ⟨-, rfl⟩ := h
            exact Ctx.sameStream_trans h1 (ih _ hr)
        · simp only [Except.ok.injEq, Prod.mk.injEq] at h
          rw [← h.2]
          simpa [Ctx.sameStream, Ctx.stash] using h1

/-- R134: what a read answers: the drained frames, then those of the loop. -/
theorem readFrames_ok {k : Nat} (h : readFrames m cx k = .ok (fs, cx')) :
    ∃ rest, fs = drained cx k ++ rest ∧
      decodeFrames m (k - drainCount cx k) { cx with ovfOff := cx.ovfOff + drainCount cx k } (k - drainCount cx k) =
        .ok (rest, cx') := by
  simp only [readFrames] at h
  split at h
  · cases h
  · rename_i rest cx1 hr
    simp only [Except.ok.injEq, Prod.mk.injEq] at h
    exact ⟨rest, h.1.symm, by rw [hr, h.2]⟩

/-- R134: a read changes the position, the borders and the scratch buffer only. -/
theorem readFrames_sameStream {k : Nat} (h : readFrames m cx k = .ok (fs, cx')) : cx.sameStream cx' := by
  obtain ⟨rest, -, hr⟩ := readFrames_ok h
  simpa [Ctx.sameStream] using decodeFrames_sameStream _ _ hr

/-! ### The position depends on no stream byte (R127, R137) -/

/-- Two contexts stand at one position of streams of one shape. -/
def Ctx.samePlace (a b : Ctx) : Prop :=
  a.lossy = b.lossy ∧ a.n = b.n ∧ a.unit = b.unit ∧ a.ovfLen = b.ovfLen ∧ a.ovfOff = b.ovfOff

theorem unitLen_samePlace {a b : Ctx} (h : a.samePlace b) : unitLen a = unitLen b := by
  obtain ⟨h1, h2, h3, -, -⟩ := h
  simp [unitLen, h1, h2, h3]

theorem passUnits_samePlace (fuel need : Nat) {a b : Ctx} (h : a.samePlace b) :
    (passUnits fuel a need).samePlace (passUnits fuel b need) := by
  induction fuel generalizing a b need with
  | zero => exact h
  | succ fuel ih =>
    have hl := unitLen_samePlace h
    obtain ⟨h1, h2, h3, h4, h5⟩ := h
    simp only [passUnits, hl]
    split
    · exact ⟨h1, h2, h3, h4, h5⟩
    · split
      · exact ih _ ⟨h1, h2, by simp [h3], h4, h5⟩
      · exact ⟨h1, h2, by simp [h3], rfl, rfl⟩

/-- R129: a decoded unit moves the position one unit on. -/
theorem decodeUnit_samePlace (h : decodeUnit m cx = .ok (fs, cx')) :
    cx'.samePlace { cx with unit := cx.unit + 1 } := by
  obtain ⟨cx1, h1, rfl⟩ := advanceUnit_ok h
  split at h1
  · rcases frDecodeUnit_ok h1 with ⟨-, -, rfl⟩ | ⟨-, -, -, rfl⟩ <;> simp [Ctx.samePlace]
  · rcases adDecodeUnit_ok h1 with ⟨b, t, -, -, -, -, hp⟩ | ⟨-, hp⟩ <;>
    · obtain ⟨-, -, rfl⟩ := adPayloadUnit_ok hp
      simp [Ctx.samePlace]

theorem decodeFrames_samePlace (fuel need : Nat) (h : decodeFrames m fuel cx need = .ok (fs, cx')) :
    cx'.samePlace (passUnits fuel cx need) := by
  induction fuel generalizing cx fs need with
  | zero =>
    simp only [decodeFrames, Except.ok.injEq, Prod.mk.injEq] at h
    simp [← h.2, passUnits, Ctx.samePlace]
  | succ fuel ih =>
    unfold decodeFrames at h
    unfold passUnits
    split at h
    · rename_i h0
      simp only [Except.ok.injEq, Prod.mk.injEq] at h
      simp [← h.2, h0, Ctx.samePlace]
    · rename_i h0
      rw [if_neg h0]
      split at h
      · cases h
      · rename_i fs1 cx1 hu
        have hp := decodeUnit_samePlace hu
        have hlen := decodeUnit_length hu
        split at h
        · rename_i hle
          rw [if_pos hle]
          split at h
          · cases h
          · rename_i rest cx2 hr
            simp only [Except.ok.injEq, Prod.mk.injEq] at h
            obtain ⟨-, rfl⟩ := h
            obtain ⟨a1, a2, a3, a4, a5⟩ := ih _ hr
            obtain ⟨b1, b2, b3, b4, b5⟩ := passUnits_samePlace fuel (need - fs1.length) hp
            rw [hlen] at a1 a2 a3 a4 a5 b1 b2 b3 b4 b5
            exact ⟨a1.trans b1, a2.trans b2, a3.trans b3, a4.trans b4, a5.trans b5⟩
        · rename_i hle
          rw [if_neg hle]
          simp only [Except.ok.injEq, Prod.mk.injEq] at h
          obtain ⟨p1, p2, p3, -, -⟩ := hp
          rw [← h.2]
          exact ⟨p1, p2, p3, hlen, rfl⟩

/-- R134, R137: the position after a read is the one its frame count gives, whatever the stream's bytes. -/
theorem readFrames_samePlace {k : Nat} (h : readFrames m cx k = .ok (fs, cx')) : cx'.samePlace (passFrames cx k) := by
  obtain ⟨rest, -, hr⟩ := readFrames_ok h
  exact decodeFrames_samePlace _ _ hr

/-- R134: the drained frames, of a scratch buffer of the right form. -/
theorem drained_length {k : Nat} (h : cx.scratchOk = true) : (drained cx k).length = drainCount cx k := by
  simp only [Ctx.scratchOk, Bool.and_eq_true, decide_eq_true_eq] at h
  simp only [drained, drainCount, List.length_take, List.length_drop]
  omega

/-- The errors a unit raises are those of R135. -/
theorem decodeUnit_error {e : ErrCode} (h : decodeUnit m cx = .error e) : e = .truncated ∨ e = .malformed := by
  unfold decodeUnit advanceUnit at h
  split at h
  · rename_i e' he
    cases h
    split at he
    · simp only [frDecodeUnit] at he
      split at he
      · cases he
      · split at he <;> cases he
        exact .inl rfl
    · simp only [adDecodeUnit, adHeaderUnit, adPayloadUnit] at he
      repeat' split at he
      all_goals cases he <;> first | exact .inl rfl | exact .inr rfl
  · cases h

/-- The errors of the loop of DEC_READ are those of R135. -/
theorem decodeFrames_error {e : ErrCode} (fuel need : Nat) (h : decodeFrames m fuel cx need = .error e) :
    e = .truncated ∨ e = .malformed := by
  induction fuel generalizing cx need with
  | zero => cases h
  | succ fuel ih =>
    unfold decodeFrames at h
    split at h
    · cases h
    · split at h
      · rename_i hu
        cases h
        exact decodeUnit_error hu
      · split at h
        · split at h
          · rename_i hr
            cases h
            exact ih _ hr
          · cases h
        · cases h

/-- The errors of a read, its checks passed, are those of R135. -/
theorem readFrames_error {e : ErrCode} {k : Nat} (h : readFrames m cx k = .error e) : e = .truncated ∨ e = .malformed := by
  simp only [readFrames] at h
  split at h
  · rename_i hr
    cases h
    exact decodeFrames_error _ _ hr
  · cases h

end Sys2Proof.Machine
end

