-- ==== Sys2Proof/Tests/Slice0.lean ====
section
/-! SUPPORT. Tests: ill-formed terms, words written out from the spec's encodings, one step of each instruction on the
vectors of 95_test_vectors.md (named in each comment), and for every obligation with hypotheses a state that meets them. -/

namespace Sys2Proof.Tests

open Sys2Proof.Machine

/-! ### Helpers -/

/-- The state an instruction leaves; the state before it where it stops. -/
def after (i : Instr) (s : State) : State :=
  match exec i s with
  | .next t => t
  | .fault _ => s
  | .refused _ => s

/-- An instruction answers a next state. -/
def runs (i : Instr) (s : State) : Bool :=
  match exec i s with
  | .next _ => true
  | .fault _ => false
  | .refused _ => false

theorem exec_of_runs {i : Instr} {s : State} (h : runs i s = true) : exec i s = .next (after i s) := by
  unfold runs at h
  unfold after
  split at h <;> simp_all

/-- The state with bytes placed in memory. -/
def load (a : Nat) (bs : List Nat) (s : State) : State :=
  { s with mem := writeBytes s.mem a (bs.map (BitVec.ofNat 8)) }

/-- The state with the operand registers written. -/
def args (a b c d : Nat) (s : State) : State :=
  { s with arg0 := BitVec.ofNat 32 a, arg1 := BitVec.ofNat 32 b, arg2 := BitVec.ofNat 32 c, arg3 := BitVec.ofNat 32 d }

/-- The bytes of memory from an address on, as numbers. -/
def peek (s : State) (a n : Nat) : List Nat := (readBytes s.mem a n).map BitVec.toNat

/-- The state with one host action waiting. -/
def host (a : HostAction) (s : State) : State := { s with inbox := [a] }

/-- The stream of program P1: five mono FR frames. -/
def frStream : List Nat := [5, 0, 0, 0, 0x40, 0x1F, 0, 0, 0, 1, 0, 0, 0x8A, 0, 0x0A, 0x28, 0]

/-- The stream of AD-D1: sixteen mono AD frames, a Full chunk and a Small chunk of one delta that wraps. -/
def adStream : List Nat :=
  [16, 0, 0, 0, 0x44, 0xAC, 0, 0, 0, 0, 0x80] ++ List.replicate 14 0 ++ [0xFF, 0x7F, 0x00, 0x01] ++ List.replicate 7 0

/-- Context 0 open on the FR stream at 0x2000. -/
def frOpen : State := after (.decOpen 0) (args 0x2000 17 0 0 (load 0x2000 frStream State.reset))

/-- Context 0 open on the AD stream at 0x2000. -/
def adOpen : State := after (.decOpen 0) (args 0x2000 36 0 0 (load 0x2000 adStream State.reset))

/-- Context 0 open on a stream that begins with a reserved header. -/
def badOpen : State := after (.decOpen 0) (args 0x2000 36 0 0 (load 0x200A [0xC0] (load 0x2000 adStream State.reset)))

/-- Context 0 open on the AD stream cut to `len` bytes. -/
def adCut (len : Nat) : State := after (.decOpen 0) (args 0x2000 len 0 0 (load 0x2000 adStream State.reset))

/-- The same after the 8 frames of its first unit. -/
def adLater (len : Nat) : State := after (.decRead 0) (args 0x3000 64 8 0 (adCut len))

/-- Context 0 faulted. -/
def faulted : State := after (.decRead 0) (args 0x3000 32 16 0 badOpen)

/-- Context 0 of a state. -/
def ctx0 (s : State) : Ctx := s.ctxs.headD Ctx.closed

/-- A read of `k` frames of context 0 to 0x3000 in progress in a state. -/
def reading (k written : Nat) (s : State) : State := { s with reading := some ⟨0, 0x3000, k, written⟩ }

/-! ### Well-formedness -/

theorem test_wf_refuses_ctx_16 : (Instr.decOpen 16).wf = false ∧ (Instr.decClose 16).wf = false := by decide
theorem test_wf_takes_ctx_15 : (Instr.decRead 15).wf = true ∧ (Instr.decReset 16).wf = false := by decide
theorem test_wf_refuses_extra_64 : (Instr.adSmall 64).wf = false ∧ (Instr.adReserved 64).wf = false := by decide
theorem test_wf_takes_extra_63 : (Instr.adFull 63).wf = true ∧ (Instr.adMedium 64).wf = false := by decide

/-! ### Words written out from R66, R68 and R88 -/

/-- W-1, W-2. -/
theorem test_word_nop_cvt : decodeTableWord 32 0 = some .nop ∧ decodeTableWord 32 1 = some .cvtF32 := by decide
/-- HW-3, HW-4: LS is bit 13 and ST bit 12. -/
theorem test_word_hdrWrite :
    decodeTableWord 32 0x00002002 = some (.hdrWrite false true) ∧
    decodeTableWord 32 0x00001002 = some (.hdrWrite true false) := by decide
/-- R68: OP 0x10. -/
theorem test_word_encFr :
    decodeTableWord 32 0x00000010 = some (.encFr false) ∧ decodeTableWord 32 0x00001010 = some (.encFr true) := by decide
/-- R68: OP 0x11. -/
theorem test_word_encAd :
    decodeTableWord 32 0x00000011 = some (.encAd false) ∧ decodeTableWord 32 0x00001011 = some (.encAd true) := by decide
/-- MC-1, MC-2: CTX is bits 11:8. -/
theorem test_word_dec :
    decodeTableWord 32 0x00000720 = some (.decOpen 7) ∧ decodeTableWord 32 0x00000121 = some (.decRead 1) ∧
    decodeTableWord 32 0x00000822 = some (.decReset 8) ∧ decodeTableWord 32 0x00000F23 = some (.decClose 15) := by decide
/-- S-4: the eight corner headers. -/
theorem test_run_headers :
    decodeTableWord 8 0x00 = some (.adSmall 0) ∧ decodeTableWord 8 0x3F = some (.adSmall 63) ∧
    decodeTableWord 8 0x40 = some (.adMedium 0) ∧ decodeTableWord 8 0x7F = some (.adMedium 63) ∧
    decodeTableWord 8 0x80 = some (.adFull 0) ∧ decodeTableWord 8 0xBF = some (.adFull 63) ∧
    decodeTableWord 8 0xC0 = some (.adReserved 0) ∧ decodeTableWord 8 0xFF = some (.adReserved 63) := by decide
/-- W-7 to W-16. -/
theorem test_illegal_words :
    [0x03, 0xFF, 0x12, 0x24, 0x100, 0x1000, 0x1001, 0x2010, 0x2011, 0x1020, 0x4000, 0x80000000, 0x4121].all
      (fun w => (decodeTableWord 32 w).isNone) = true := by decide

/-! ### One step of each instruction -/

/-- NOP-1. -/
theorem test_nop : after .nop { State.reset with err := .capacity, res0 := 7 } = { State.reset with res0 := 7 } := by
  decide

/-- HW-2, HW-6. -/
theorem test_hdrWrite :
    peek (after (.hdrWrite true true) (args 0x2000 9 48000 0 State.reset)) 0x2000 10 =
      [0x09, 0, 0, 0, 0x80, 0xBB, 0, 0, 1, 1] ∧
    (after (.hdrWrite false false) (args 0xFFFFFFF6 1 1 0 State.reset)).res0 = 10 := by decide
/-- HW-7, HW-8. -/
theorem test_hdrWrite_turned_away :
    (after (.hdrWrite false false) (args 0xFFFFFFF7 1 1 0 State.reset)).err = .region ∧
    (after (.hdrWrite false false) (args 0x2010 1 1 0 frOpen)).err = .overlap := by decide

/-- CV-C2, in place. -/
theorem test_cvt_in_place :
    peek (after .cvtF32 (args 0x1000 0x1000 2 0 (load 0x1000 [0, 0, 0, 0x3F, 0, 0, 0x80, 0xBF] State.reset))) 0x1000 8 =
      [0xFF, 0x3F, 0x02, 0x80, 0, 0, 0x80, 0xBF] := by decide
/-- CV-5, CV-7, CV-9, CV-11, CV-14, CV-18: the two roundings, the subnormal, saturation and NaN. -/
theorem test_cvt_values :
    [0xBDCCCCCD#32, 0x3F000200#32, 0x38000000#32, 0x000116C2#32, 0xC0000000#32, 0xFFFFFFFF#32].map f32ToInt =
      [-3276, 16384, 0, 0, -32768, 0] := by decide

/-- EF-7: the clamp on both sides. -/
theorem test_encFr :
    peek (after (.encFr false) (args 0x1000 0x4000 5 256
      (load 0x1000 [0, 0, 0xE8, 3, 0x18, 0xFC, 5, 0, 0, 0] State.reset))) 0x4000 7 =
      [0, 0, 0x7F, 0xFF, 5, 0, 0] := by decide
/-- EF-4: padding; EF-E2: CAPACITY. -/
theorem test_encFr_edges :
    peek (after (.encFr false) (args 0x1000 0x4000 3 256 (load 0x1000 [0xFD, 0xFF, 4, 0, 11, 0] State.reset))) 0x4000 7 =
      [0xFD, 0xFF, 0, 7, 7, 11, 0] ∧
    (after (.encFr false) (args 0x1000 0x4000 5 6 State.reset)).err = .capacity := by decide

/-- AD-B4: chunk 1 is Medium, with the delta -128. -/
theorem test_encAd :
    peek (after (.encAd false) (args 0x1000 0x4000 16 256
      (load 0x1010 ((List.replicate 8 [0x80, 0xFF]).flatten) State.reset))) 0x4011 5 = [0x40, 0x80, 0x0F, 0, 0] := by
  decide
/-- AD-X3: in place is refused; AD-X6: the empty body overlaps nothing. -/
theorem test_encAd_edges :
    (after (.encAd false) (args 0x1000 0x1000 8 64 State.reset)).err = .overlap ∧
    (after (.encAd false) (args 0x1000 0x1000 5 64 State.reset)).err = .ok := by decide

/-- P1: DEC_OPEN. -/
theorem test_decOpen :
    (frOpen.err, frOpen.res0, frOpen.res1, frOpen.res2, frOpen.res3, frOpen.ctxStateWord) =
      (ErrCode.ok, 5#32, 8000#32, 2#32, 5#32, 1#32) := by decide
/-- FD-7, DO-2. -/
theorem test_decOpen_turned_away :
    (after (.decOpen 0) (args 0x2000 11 0 0 (load 0x2000 frStream State.reset))).err = .truncated ∧
    (after (.decOpen 0) frOpen).err = .ctxState := by decide

/-- P1: a read of 3 frames, then one of 10 that delivers 2. -/
theorem test_decRead :
    peek (after (.decRead 0) (args 0x3006 100 10 0 (after (.decRead 0) (args 0x3000 6 3 0 frOpen)))) 0x3000 12 =
      [0, 0, 10, 0, 20, 0, 30, 0, 40, 0, 0, 0] := by decide
/-- AD-D1: the sum 32767 + 1 wraps; AD-D3: the reserved header. -/
theorem test_decRead_ad :
    peek (after (.decRead 0) (args 0x3000 64 16 0 adOpen)) 0x300E 4 = [0xFF, 0x7F, 0x00, 0x80] ∧
    (faulted.err, faulted.ctxStateWord) = (ErrCode.malformed, 4#32) := by decide

/-- RS-2: DEC_RESET of a faulted context. -/
theorem test_decReset :
    ((after (.decReset 0) faulted).res0, (after (.decReset 0) faulted).ctxStateWord) = (16#32, 1#32) := by decide
/-- RS-4, W-17. -/
theorem test_decReset_turned_away :
    (after (.decReset 0) State.reset).err = .ctxState ∧ (after (.decReset 1) State.reset).err = .badCtx := by decide

/-- CL-1. -/
theorem test_decClose : (after (.decClose 0) frOpen).ctxs = [Ctx.closed] := by decide
/-- CL-2, MC-3. -/
theorem test_decClose_turned_away :
    (after (.decClose 0) State.reset).err = .ctxState ∧ (after (.decClose 15) State.reset).err = .badCtx := by decide

/-- AD-D1, read unit by unit: the Full header delivers 8 frames, the last of them 32767. -/
theorem test_adFull :
    (peek (after (.adFull 0) (reading 16 0 adOpen)) 0x300E 2, (ctx0 (after (.adFull 0) (reading 16 0 adOpen))).cursor) =
      ([0xFF, 0x7F], 27#32) := by decide
/-- AD-D1, its second unit: the delta 1 wraps 32767 to -32768, and the read ends. -/
theorem test_adSmall :
    peek (after (.adSmall 0) (after (.adFull 0) (reading 16 0 adOpen))) 0x3010 2 = [0x00, 0x80] ∧
    (after (.adSmall 0) (after (.adFull 0) (reading 16 0 adOpen))).res0 = 16 := by decide
/-- AD-P2: the pair 1000, -1000 of a Medium payload. -/
theorem test_adMedium :
    peek (after (.adMedium 0) ((load 28 [0xE8, 0x83, 0xC1] State.reset).withFetchWord 8 0x40)) 64 4 = [0, 0, 0, 0] ∧
    peek (after (.adMedium 0) (load 28 [0xE8, 0x83, 0xC1] (State.reset.withFetchWord 8 0x40))) 64 4 =
      [0xE8, 3, 0, 0] := by decide
/-- AD-D3. -/
theorem test_adReserved :
    (after (.adReserved 0) (reading 16 0 adOpen)).err = .malformed ∧
    (ctx0 (after (.adReserved 0) (reading 16 0 adOpen))).st = .faulted := by decide

/-! ### A state and operands that meet the hypotheses of each obligation, for each of its clauses -/

theorem witness_DecodeOfEncodeIsInstr : (Instr.decOpen 15).wf = true ∧ (Instr.adReserved 63).wf = true := by decide

theorem witness_EncodeOfDecodeIsWord : decodeWord 0x00000F23#32 = .ok (.decClose 15) := rfl

theorem witness_StepRunsTheCommandWritten :
    (host (.regWrite 4 0x04#8 0x23#32) frOpen).reading = none ∧ decodeWord 0x23#32 = .ok (.decClose 0) ∧
    runs (.decClose 0) frOpen = true ∧ ∃ e, decodeWord 0x80000000#32 = .error e :=
  ⟨rfl, rfl, by decide, .reservedBits, rfl⟩

theorem witness_StepRunsTheRunHeaderAtCursor :
    (reading 16 0 adOpen).ctxs[0]? = some (ctx0 adOpen) ∧ (ctx0 adOpen).lossy = false ∧ (ctx0 adOpen).runLeft = 0 ∧
    (ctx0 adOpen).stale = false ∧ (ctx0 adOpen).cursor.toNat + 1 ≤ (ctx0 adOpen).len.toNat := by decide

theorem witness_CommandLineRunsItsCommand :
    (Instr.decClose 15).isCommand = true ∧ (Instr.decClose 15).wf = true ∧
    ({ State.reset with inbox := commandLine (.decClose 15) [1, 2, 3, 4] ++ [.reset] } : State).inbox =
      commandLine (.decClose 15) [1, 2, 3, 4] ++ [.reset] := by decide

theorem witness_ArgRegistersHoldWhatTheHostWrote :
    (0x0C#8 ∈ [0x0C#8, 0x10#8, 0x14#8, 0x18#8] ∧ 0x18#8 ∈ [0x0C#8, 0x10#8, 0x14#8, 0x18#8]) ∧
    runs (.encFr true) State.reset = true ∧ runs (.adFull 0) (reading 16 0 adOpen) = true := by decide

theorem witness_WindowAccessRules :
    ((host (.regRead 4 0x20#8) frOpen).reading = none ∧ frOpen.res1 = 8000#32 ∧
      (host (.memRead 0xFFFFFFFF#32) frOpen).reading = none) ∧
    ((0x44#8).toNat % 4 = 0 ∧ 0x44 ≤ (0x44#8).toNat ∧ (0xFC#8).toNat % 4 = 0 ∧ 0x44 ≤ (0xFC#8).toNat) ∧
    (∀ off ∈ [0x00#8, 0x08#8, 0x1C#8, 0x40#8, 0xFC#8], off.toNat % 4 = 0 ∧
      off ∉ [0x04#8, 0x0C#8, 0x10#8, 0x14#8, 0x18#8]) ∧
    (2 ≠ 4 ∨ (0x02#8).toNat % 4 ≠ 0) ∧ (4 ≠ 4 ∨ (0x01#8).toNat % 4 ≠ 0) := by decide

/-- NUM_CTX = 1 and NUM_CTX = 8. -/
theorem witness_IdAndStatusFields :
    State.reset.numCtx = 1 ∧ ({ State.reset with ctxs := List.replicate 8 Ctx.closed } : State).numCtx = 8 := by
  decide

theorem witness_CtxStateHoldsTheCodes :
    frOpen.numCtx ≤ 8 ∧ frOpen.ctxs[0]? = some (ctx0 frOpen) ∧ frOpen.numCtx ≤ 1 ∧
    ({ State.reset with ctxs := List.replicate 8 Ctx.closed } : State).ctxs[7]? = some Ctx.closed := by decide

theorem witness_BlockResetKeepsMemory :
    (host .reset frOpen).reading = none ∧ (host .reset frOpen).inbox = .reset :: [] := by decide

theorem witness_ResetDuringACommand :
    (host (.resetDuring 0x21#32) frOpen).reading = none ∧ decodeWord 0x21#32 = .ok (.decRead 0) ∧
    (∃ e, decodeWord 0x03#32 = .error e) ∧
    (destRegion (.decRead 0) (args 0x3000 10 5 0 frOpen)).size = 10 :=
  ⟨rfl, rfl, ⟨.reservedOp, rfl⟩, by decide⟩

theorem witness_RegionsShareBytesOrNot :
    (⟨256, [⟨0, 4294967296, 0, 4294967296⟩], true⟩ : Platform).admits ⟨0, 256⟩ = true ∧
    (⟨256, [⟨0, 4294967296, 0, 4294967296⟩], true⟩ : Platform).admits ⟨512, 1⟩ = true := by
  decide

theorem witness_StoredValueReadsBackLittleEndian : 2 ^ 32 - 1 < 256 ^ 4 ∧ 0 < 256 ^ 0 := by decide

/-- HW-6. -/
theorem witness_HdrWriteWritesThePreamble :
    (args 0xFFFFFFF6 1 1 0 frOpen).valid ⟨0xFFFFFFF6, 10⟩ = true ∧
    (args 0xFFFFFFF6 1 1 0 frOpen).overlapsOpen ⟨0xFFFFFFF6, 10⟩ = false := by decide

/-- CV-C2 in place, and a destination that begins where the source ends. -/
theorem witness_CvtConvertsEverySample :
    (∀ s ∈ [args 0x1000 0x1000 2 0 frOpen, args 0x1000 0x1008 2 0 frOpen, args 0 0xFFFFFFFC 2 0 frOpen],
      s.valid ⟨s.arg0.toNat, 4 * s.arg2.toNat⟩ = true ∧ s.valid ⟨s.arg1.toNat, 2 * s.arg2.toNat⟩ = true ∧
      (s.arg1 = s.arg0 ∨
        Region.overlaps ⟨s.arg0.toNat, 4 * s.arg2.toNat⟩ ⟨s.arg1.toNat, 2 * s.arg2.toNat⟩ = false) ∧
      s.overlapsOpen ⟨s.arg1.toNat, 2 * s.arg2.toNat⟩ = false) := by decide

/-- CV-C5, CV-C6, CV-C3, an open stream met, HW-7, HW-8. -/
theorem witness_CvtAndHdrWriteTurnedAway :
    frOpen.valid ⟨0xFFFFFFFC, 8⟩ = false ∧ (frOpen.valid ⟨0x1000, 8⟩ = true ∧ frOpen.valid ⟨0xFFFFFFFE, 4⟩ = false) ∧
    (frOpen.valid ⟨0x1002, 4⟩ = true ∧ Region.overlaps ⟨0x1000, 8⟩ ⟨0x1002, 4⟩ = true) ∧
    (frOpen.valid ⟨0x2010, 4⟩ = true ∧ frOpen.overlapsOpen ⟨0x2010, 4⟩ = true) ∧
    frOpen.valid ⟨0xFFFFFFF7, 10⟩ = false ∧ (frOpen.valid ⟨0x1FF7, 10⟩ = true ∧ frOpen.overlapsOpen ⟨0x1FF7, 10⟩ = true) := by
  decide

theorem witness_CvtSpecialValues :
    (f32Exp 0xFFFFFFFF#32 = 255 ∧ f32Frac 0xFFFFFFFF#32 ≠ 0 ∧ f32Exp 0x7F800001#32 = 255 ∧
      f32Frac 0x7F800001#32 ≠ 0) ∧
    ((0x7F7FFFFF#32).toNat / 2 ^ 23 % 2 ^ 8 ≠ 255 ∧ (0x80000000#32).toNat / 2 ^ 23 % 2 ^ 8 = 0) ∧
    (f32Exp 0x007FFFFF#32 = 0 ∧ f32Exp 0x80000000#32 = 0) ∧ (0x3F800000#32).toNat ≤ 0x3F800000 ∧
    (0x80000000 ≤ (0xBF800000#32).toNat ∧ (0xBF800000#32).toNat ≤ 0xBF800000) := by decide

/-- A tie: 3 / 2 lies between 1 and 2. -/
theorem witness_RoundingIsNearestEven : 2 * (roundNearestEven 3 1 * 2 ^ 1 - 3) = 2 ^ 1 ∧ roundNearestEven 3 1 = 2 := by
  decide

/-- A slope of 127 and one of 126. -/
theorem witness_FrStepAndMidpoint :
    127 ≤ ((127#16).toInt - (0#16).toInt).natAbs ∧ ((126#16).toInt - (0#16).toInt).natAbs < 127 := by decide

/-- FR-Q5 and FR-Q6: the largest unclamped residual and the first clamped one. -/
theorem witness_FrErrorBound :
    ((1127#16).toInt - frMid 1000 1000).natAbs < 128 * frStep 1000 1000 ∧
    128 * frStep 1000 1000 ≤ ((1128#16).toInt - frMid 1000 1000).natAbs := by decide

theorem witness_FrResidualByte : frMid 0 127 ≤ (63#16).toInt ∧ (63#16).toInt ≤ frMid 0 127 := by decide

/-- EF-E5 in place, EF-9's shape, and EF-2: one frame, B = cap. -/
theorem witness_EncFrWritesTheBody :
    (∀ t ∈ [(false, 7, args 0x1000 0x1000 5 7 frOpen), (true, 24, args 0x1000 0x4000 9 24 frOpen),
        (false, 2, args 0 0xFFFFFFFE 1 2 frOpen)],
      t.2.2.arg2 ≠ 0 ∧ t.2.2.valid ⟨t.2.2.arg0.toNat, 2 * channels t.1 * t.2.2.arg2.toNat⟩ = true ∧
      t.2.1 = 5 * channels t.1 * ((t.2.2.arg2.toNat - 1 + 3) / 4) + 2 * channels t.1 ∧ t.2.1 ≤ t.2.2.arg3.toNat ∧
      t.2.2.valid ⟨t.2.2.arg1.toNat, t.2.1⟩ = true ∧
      (t.2.2.arg1 = t.2.2.arg0 ∨
        Region.overlaps ⟨t.2.2.arg0.toNat, 2 * channels t.1 * t.2.2.arg2.toNat⟩ ⟨t.2.2.arg1.toNat, t.2.1⟩ = false) ∧
      t.2.2.overlapsOpen ⟨t.2.2.arg1.toNat, t.2.1⟩ = false) := by decide

/-- EF-E1, EF-E7, EF-E2, EF-E8, EF-E4, EF-E10. -/
theorem witness_EncFrTurnedAway :
    (args 0x1000 0x4000 0 256 frOpen).arg2 = 0 ∧ frOpen.valid ⟨0xFFFFFFFF, 2⟩ = false ∧
    (frOpen.valid ⟨0x1000, 10⟩ = true ∧ (args 0x1000 0x4000 5 6 frOpen).arg3.toNat < 7) ∧
    frOpen.valid ⟨0xFFFFFFFA, 7⟩ = false ∧
    (frOpen.valid ⟨0x1004, 7⟩ = true ∧ Region.overlaps ⟨0x1000, 10⟩ ⟨0x1004, 7⟩ = true) ∧
    (frOpen.valid ⟨0x2010, 2⟩ = true ∧ frOpen.overlapsOpen ⟨0x2010, 2⟩ = true) := by decide

/-- The frames 0, 10, 20, 30, 40 of program P1. -/
def lineFrames (f : Nat) : Frame := ⟨BitVec.ofNat 16 (10 * f), 0⟩

theorem witness_FrBodyDecodes :
    readBytes frOpen.mem 0x200A (frBody false (frChunks 5) fun f => lineFrames (min f 4)).length =
      (frBody false (frChunks 5) fun f => lineFrames (min f 4)) ∧
    10 + (frBody false (frChunks 5) fun f => lineFrames (min f 4)).length ≤ 17 := by decide

theorem witness_AdChunkTypeByLargestDelta : ∀ d ∈ [127, -127], Int.natAbs d ≤ 127 := by decide

theorem witness_MediumPairRoundTrip : -2048 ≤ (-2048 : Int) ∧ (-2048 : Int) ≤ 2047 ∧ (2047 : Int) ≤ 2047 := by decide

/-- 65 Small chunks: a run of 64 and a run of 1. -/
theorem witness_RunsAreGreedy :
    ((adGroup (List.replicate 65 ⟨.small, []⟩))[0]?, (adGroup (List.replicate 65 ⟨.small, []⟩))[1]?) =
      (some ⟨.small, List.replicate 64 []⟩, some ⟨.small, [[]]⟩) := by decide

theorem witness_AdBodySizeAndFirstHeader :
    (args 0x1000 0x4000 7 64 State.reset).arg2.toNat / 8 = 0 ∧ 8 ≤ (args 0x1000 0x4000 8 64 State.reset).arg2.toNat := by
  decide

/-- The source samples of an encoder exist as functions, whatever the state. -/
theorem witness_EncAdWritesTheBody_source (s : State) (c : Nat) : ∃ (x : Nat → Nat → Sample) (d : Nat → Nat → Int),
    (∀ f ch, x f ch = readSample s.mem (s.arg0.toNat + 2 * (c * f + ch))) ∧
    (∀ k i, d k i = (x (8 * k + i / c) (i % c)).toInt - (x (8 * k + i / c - 1) (i % c)).toInt) :=
  ⟨_, _, fun _ _ => rfl, fun _ _ => rfl⟩

/-- AD-X4 at 0x1010, B = cap; AD-X6. -/
theorem witness_EncAdWritesTheBody :
    (∀ t ∈ [(17, args 0x1000 0x1010 8 17 frOpen), (0, args 0x1000 0x1000 5 0 frOpen)],
      t.2.arg2 ≠ 0 ∧ t.2.valid ⟨t.2.arg0.toNat, 2 * channels false * t.2.arg2.toNat⟩ = true ∧
      (encAdBody false t.2).length = t.1 ∧ t.1 ≤ t.2.arg3.toNat ∧ t.2.valid ⟨t.2.arg1.toNat, t.1⟩ = true ∧
      Region.overlaps ⟨t.2.arg0.toNat, 2 * channels false * t.2.arg2.toNat⟩ ⟨t.2.arg1.toNat, t.1⟩ = false ∧
      t.2.overlapsOpen ⟨t.2.arg1.toNat, t.1⟩ = false) := by decide

/-- AD-X1, a source past the end, AD-X2, AD-X5, AD-X3, AD-X4 at 0x100F, an open stream met. -/
theorem witness_EncAdTurnedAway :
    (args 0x1000 0x4000 0 64 frOpen).arg2 = 0 ∧ frOpen.valid ⟨0xFFFFFFFF, 16⟩ = false ∧
    ((args 0x1000 0x4000 8 16 frOpen).arg3.toNat < (encAdBody false (args 0x1000 0x4000 8 16 frOpen)).length) ∧
    frOpen.valid ⟨0xFFFFFFF0, 17⟩ = false ∧ 8 ≤ (args 0x1000 0x1000 8 64 frOpen).arg2.toNat ∧
    Region.overlaps ⟨0x1000, 16⟩ ⟨0x100F, 17⟩ = true ∧ frOpen.overlapsOpen ⟨0x2010, 17⟩ = true := by decide

/-- The frames of AD-D1. -/
def wrapFrames (f : Nat) : Frame := if f < 7 then Frame.zero else if f = 7 then ⟨0x7FFF, 0⟩ else ⟨0x7FFE, 0⟩

theorem witness_AdRoundTripIsLossless :
    (readBytes (writeBytes [] 0x200A ((adGroup (adPass1 false wrapFrames 2 0 Frame.zero)).flatMap adRunBytes)) 0x200A
        ((adGroup (adPass1 false wrapFrames 2 0 Frame.zero)).flatMap adRunBytes).length =
      (adGroup (adPass1 false wrapFrames 2 0 Frame.zero)).flatMap adRunBytes) ∧
    10 + ((adGroup (adPass1 false wrapFrames 2 0 Frame.zero)).flatMap adRunBytes).length ≤ 36 := by decide

/-- Each header type; a read that goes on (16 frames), one that ends at the unit (8), one that ends inside it (3). -/
theorem witness_RunHeaderDecodesItsFirstChunk :
    (ctx0 (reading 16 0 adOpen)).inSpace = true ∧ (ctx0 adOpen).runLeft = 0 ∧ (ctx0 adOpen).unit = 0 ∧
    (ctx0 adOpen).cursor.toNat + 1 + 16 ≤ (ctx0 adOpen).len.toNat ∧ fetchCtx.inSpace = true ∧ fetchCtx.unit ≠ 0 ∧
    fetchCtx.cursor.toNat + 1 + 12 ≤ fetchCtx.len.toNat ∧ fetchCtx.cursor.toNat + 1 + 16 ≤ fetchCtx.len.toNat ∧
    (∀ k ∈ [16, 8, 3], runs (.adFull 0) (reading k 0 adOpen) = true) ∧
    (adFrames adOpen.mem false .full 0x200B Frame.zero)[7]? = some ⟨0x7FFF, 0⟩ := by decide

theorem witness_MalformedRunHeaderFaultsTheContext :
    (reading 16 0 badOpen).ctxs[0]? = some (ctx0 badOpen) ∧ (ctx0 badOpen).inSpace = true ∧
    (ctx0 badOpen).lossy = false ∧ (ctx0 badOpen).runLeft = 0 ∧ (ctx0 badOpen).stale = false ∧ (ctx0 badOpen).unit = 0 ∧
    (ctx0 (adCut 26)).len.toNat < (ctx0 (adCut 26)).cursor.toNat + 1 + 16 ∧ (ctx0 (adCut 26)).inSpace = true ∧
    (ctx0 (adLater 35)).len.toNat < (ctx0 (adLater 35)).cursor.toNat + 1 + 8 ∧ (ctx0 (adLater 35)).unit ≠ 0 ∧
    (ctx0 (adLater 35)).runLeft = 0 ∧ (ctx0 (adLater 35)).inSpace = true := by
  decide

theorem witness_RunHeaderIsNoCommand : (Instr.adSmall 0).isCommand = false ∧ State.reset.reading = none := by
  decide

/-- An FR stream whose length ends at K_0, and an AD stream of ten bytes whose T is 0. -/
theorem witness_DecOpenOpensTheStream :
    (∀ s ∈ [args 0x2000 12 0 0 (load 0x2000 frStream State.reset), args 0x2000 10 0 0 (load 0x2000 [7] State.reset)],
      s.ctxs[0]? = some Ctx.closed ∧ s.valid ⟨s.arg0.toNat, s.arg1.toNat⟩ = true ∧ 10 ≤ s.arg1.toNat ∧
      readNat s.mem s.arg0.toNat 4 ≠ 0 ∧
      (readByte s.mem (s.arg0.toNat + 9) ≠ 0 → 10 + 2 * 1 ≤ s.arg1.toNat)) := by decide

/-- W-17, DO-2, DO-6, DO-3, DO-4, FD-7. -/
theorem witness_DecOpenTurnedAway :
    State.reset.numCtx ≤ 1 ∧ (ctx0 frOpen).st ≠ .closed ∧ State.reset.valid ⟨0xFFFFFFF8, 52⟩ = false ∧
    (State.reset.valid ⟨0x2000, 9⟩ = true ∧ 9 < 10) ∧ readNat State.reset.mem 0x2000 4 = 0 ∧
    (State.reset.valid ⟨0x2000, 11⟩ = true ∧ readNat (load 0x2000 frStream State.reset).mem 0x2000 4 ≠ 0 ∧
      readByte (load 0x2000 frStream State.reset).mem 0x2009 ≠ 0 ∧ 11 < 10 + 2 * 1) := by decide

/-- A read of 3 of the 5 frames, one of 0, and one of more than there are. -/
theorem witness_DecReadDeliversFrames :
    (ctx0 frOpen).st = .idle ∧ (ctx0 frOpen).stale = false ∧ (ctx0 frOpen).inSpace = true ∧
    (ctx0 frOpen).scratchOk = true ∧ frOpen.valid ⟨0x3000, 10⟩ = true ∧ frOpen.overlapsOpen ⟨0x3000, 10⟩ = false ∧
    frOpen.overlapsOpen ⟨0x2011, 10⟩ = false ∧
    (∀ k ∈ [0, 3, 5], (readFrames frOpen.mem (ctx0 frOpen) k).isOk = true) := by decide

theorem witness_DecReadErrorFaultsTheContext :
    (ctx0 badOpen).st = .idle ∧ (ctx0 badOpen).stale = false ∧ (ctx0 badOpen).inSpace = true ∧
    badOpen.valid ⟨0x3000, 32⟩ = true ∧ badOpen.overlapsOpen ⟨0x3000, 32⟩ = false ∧
    (readFrames badOpen.mem (ctx0 badOpen) 16).isOk = false ∧
    (ctx0 badOpen).ovfLen - (ctx0 badOpen).ovfOff < 16 ∧
    (readByte badOpen.mem ((ctx0 badOpen).base.toNat + (ctx0 badOpen).cursor.toNat)).toNat / 64 = 3 := by decide

/-- The conditions on the first unit: FD-6, no header, AD-D5, a second unit cut inside its payload, AD-D7. -/
theorem witness_DecReadErrorFaultsTheContext_units :
    (∀ x ∈ [ctx0 (after (.decOpen 0) (args 0x2000 12 0 0 (load 0x2000 frStream State.reset)))],
      x.lossy = true ∧ x.unit.toNat < x.n.toNat ∧ x.len.toNat < x.cursor.toNat + 5) ∧
    (ctx0 (adCut 10)).len.toNat < (ctx0 (adCut 10)).cursor.toNat + 1 ∧
    ((ctx0 (adCut 26)).cursor.toNat + 1 ≤ 26 ∧ 26 < (ctx0 (adCut 26)).cursor.toNat + 1 + 16) ∧
    ((ctx0 (adLater 35)).unit = 1 ∧ (ctx0 (adLater 35)).st = .reading ∧ (ctx0 (adLater 35)).stale = false ∧
      (ctx0 (adLater 35)).cursor.toNat + 1 ≤ 35 ∧ 35 < (ctx0 (adLater 35)).cursor.toNat + 1 + 8) ∧
    (∀ x ∈ [ctx0 (after (.decRead 0) (args 0x3000 64 8 0 (after (.decOpen 0) (args 0x2000 27 0 0
        (load 0x200A [0xBF] (load 0x2000 adStream State.reset))))))],
      x.runLeft = 63 ∧ x.runType = .full ∧ x.len.toNat < x.cursor.toNat + 16) := by decide

/-- MC-3, DR-10, DR-11, DR-12, DR-9, DR-7. -/
theorem witness_DecReadTurnedAway :
    State.reset.numCtx ≤ 15 ∧ (ctx0 State.reset).st = .closed ∧ (ctx0 faulted).st = .faulted ∧
    (args 0x3000 0x40 0x40 0 frOpen).arg1.toNat < 2 * 1 * (args 0x3000 0x40 0x40 0 frOpen).arg2.toNat ∧
    frOpen.valid ⟨0xFFFFFFFF, 2⟩ = false ∧ (frOpen.valid ⟨0x2010, 2⟩ = true ∧ frOpen.overlapsOpen ⟨0x2010, 2⟩ = true) := by
  decide

theorem witness_SplitReadsDeliverTheSameFrames :
    (ctx0 frOpen).scratchOk = true ∧ (readFrames frOpen.mem (ctx0 frOpen) (3 + 2)).isOk = true := by decide

/-- The last byte of the open stream changed, and the byte after it. -/
theorem witness_HostChangeOfAnOpenStream :
    readByte frOpen.mem 0x2010 ≠ 5 ∧ (ctx0 frOpen).base.toNat ≤ 0x2010 ∧
    0x2010 < (ctx0 frOpen).base.toNat + (ctx0 frOpen).len.toNat ∧
    (ctx0 frOpen).base.toNat + (ctx0 frOpen).len.toNat ≤ 0x2011 ∧ readByte frOpen.mem 0x2011 = 0 := by decide

/-- Bytes up to the last address, on a platform that is coherent and on one that is not. -/
theorem witness_DisturbedCommands :
    (host (.busWriteDuring 0x22#32 0x2000#32 17#32) frOpen).inv = true ∧ decodeWord 0x22#32 = .ok (.decReset 0) ∧
    (host (.skipMaintenance 0x22#32 0xFFFFFFFF#32 2#32) frOpen).inv = true ∧ frOpen.platform.coherent = true ∧
    ({ frOpen with
      platform := { frOpen.platform with coherent := false },
      inbox := [.skipMaintenance 0x22#32 0#32 1#32] } : State).inv = true :=
  ⟨by decide, rfl, by decide, by decide, by decide⟩

theorem witness_ReadOfAChangedStream :
    ({ frOpen with ctxs := [{ ctx0 frOpen with stale := true }] } : State).inv = true ∧
    ({ ctx0 frOpen with stale := true } : Ctx).inSpace = true ∧ (ctx0 frOpen).st = .idle ∧
    frOpen.valid ⟨0x3000, 10⟩ = true ∧ frOpen.overlapsOpen ⟨0x3000, 10⟩ = false := by decide

theorem witness_DecResetRewinds :
    (ctx0 faulted).st ≠ .closed ∧ (ctx0 faulted).inSpace = true ∧ (ctx0 faulted).lossy = false ∧
    (ctx0 frOpen).st ≠ .closed ∧ (ctx0 frOpen).inSpace = true ∧ (ctx0 frOpen).lossy = true := by decide

theorem witness_ResetRestoresTheOpenedContext :
    ∃ t u v : State, exec (.decOpen 0) (args 0x2000 17 0 0 (load 0x2000 frStream State.reset)) = .next t ∧ t.err = .ok ∧
      exec (.decRead 0) { t with arg0 := 0x3000, arg1 := 6, arg2 := 3 } = .next u ∧ u.err = .ok ∧
      exec (.decReset 0) u = .next v :=
  ⟨frOpen, after (.decRead 0) { frOpen with arg0 := 0x3000, arg1 := 6, arg2 := 3 }, _,
    exec_of_runs (by decide), by decide +kernel, exec_of_runs (by decide +kernel), by decide +kernel,
    exec_of_runs (by decide)⟩

theorem witness_DecCloseClearsTheContext :
    frOpen.ctxs[0]? = some (ctx0 frOpen) ∧ (ctx0 frOpen).st ≠ .closed ∧ (ctx0 faulted).st ≠ .closed := by decide

theorem witness_DecResetAndCloseTurnedAway :
    State.reset.numCtx ≤ 1 ∧ State.reset.ctxs[0]? = some Ctx.closed ∧ Ctx.closed.st = .closed := by decide

theorem witness_EveryStepKeepsTheMachineConsistent :
    (host (.regWrite 4 0x04#8 0x21#32) (args 0x3000 6 3 0 frOpen)).inv = true ∧ adOpen.inv = true ∧
    runs (.decRead 0) (args 0x3000 6 3 0 frOpen) = true := by decide

/-- An aligned access and a refused one. -/
theorem witness_NoStepGetsStuck :
    (host (.regRead 4 0x40#8) frOpen).inv = true ∧ (host (.regRead 2 0x40#8) frOpen).inv = true := by decide

/-- An error found before any write, and one inside a read. -/
theorem witness_ErrorsArePrecise :
    runs (.decOpen 0) frOpen = true ∧ (after (.decOpen 0) frOpen).err ≠ .ok ∧
    runs (.decRead 0) (args 0x3000 32 16 0 badOpen) = true ∧ faulted.err ≠ .ok := by decide

theorem witness_CommandsEndWithTheirCodes : (Instr.decRead 0).isCommand = true ∧ runs (.decRead 0) frOpen = true := by
  decide

theorem witness_DiagWrittenOnlyByEncAd :
    runs .nop frOpen = true ∧ runs (.encAd false) State.reset = true ∧ (after (.encAd false) State.reset).err ≠ .ok := by
  decide

/-- A command that writes, beside an open stream's first and last byte. -/
theorem witness_CommandsLeaveOpenStreamsAlone :
    runs (.hdrWrite true true) (args 0x2011 1 1 0 frOpen) = true ∧ (ctx0 frOpen).st ≠ .closed ∧
    ((ctx0 frOpen).base.toNat ≤ 0x2000 ∧ 0x2010 < (ctx0 frOpen).base.toNat + (ctx0 frOpen).len.toNat) := by
  decide

theorem witness_CommandsWriteOnlyTheirDestination :
    (destRegion (.hdrWrite true true) (args 0x2011 1 1 0 frOpen)).base = 0x2011 ∧
    (destRegion (.decRead 0) (args 0x3000 10 5 0 frOpen)).size = 10 := by decide

theorem witness_ContextsAreIndependent :
    (Instr.decRead 0).isCommand = true ∧ runs (.decRead 0) (args 0x3000 6 3 0 frOpen) = true ∧
    frOpen.ctxs[0]? = some (ctx0 frOpen) ∧ (args 0x3000 6 3 0 frOpen).inv = true ∧
    (after (.decRead 0) (args 0x3000 6 3 0 frOpen)).ctxs[0]? =
      some (ctx0 (after (.decRead 0) (args 0x3000 6 3 0 frOpen))) := by decide

end Sys2Proof.Tests
end

