-- ==== Sys2Proof/Proofs/Scope.lean ====
section
/-! PROOFS. The statements on the scope of the model: the bytes of a stored value (R48), run headers as data (R18), and
the invariant of a step. -/

namespace Sys2Proof.Machine

/-! ### A stored value (R48) -/

/-- R48: byte `i` of a value in little-endian order. -/
theorem leBytes_getElem_toNat {n v i : Nat} (h : i < (leBytes n v).length) :
    (leBytes n v)[i].toNat = v / 256 ^ i % 256 := by
  simp [leBytes]

/-- R12, R48: a value written to memory reads back modulo what its bytes can hold. -/
theorem readNat_writeBytes_leBytes (m : List Host.Cell) (a n v : Nat) :
    readNat (writeBytes m a (leBytes n v)) a n = v % 256 ^ n := by
  have hbytes : readBytes (writeBytes m a (leBytes n v)) a n = leBytes n v := by
    simpa using readBytes_writeBytes (leBytes n v) m a
  rw [readNat, hbytes, leNat_leBytes]

/-- Settles O16, from the laws of a byte list's write and the bytes of a little-endian value. -/
theorem storedValueReadsBackLittleEndian : Obligations.StoredValueReadsBackLittleEndian := by
  intro m a n v hv
  refine ⟨?readBack, fun i hi => ?byteOrder, fun b hb => ?frame⟩
  case readBack => rw [readNat_writeBytes_leBytes, Nat.mod_eq_of_lt hv]
  case byteOrder =>
    have hi' : i < (leBytes n v).length := by simpa using hi
    rw [readByte_writeBytes_inside _ m a i hi', leBytes_getElem_toNat]
  case frame => exact readByte_writeBytes_outside _ m a b (by simpa using hb)

/-! ### Run headers are data (R18) -/

/-- R18, R92: an instruction that is no command is a run header. -/
theorem exec_of_not_isCommand {i : Instr} (h : i.isCommand = false) (s : State) :
    ∃ ty extra, exec i s = runHeader ty extra s := by
  cases i with
  | adSmall extra => exact ⟨some .small, extra, rfl⟩
  | adMedium extra => exact ⟨some .medium, extra, rfl⟩
  | adFull extra => exact ⟨some .full, extra, rfl⟩
  | adReserved extra => exact ⟨none, extra, rfl⟩
  | nop | cvtF32 | hdrWrite | encFr | encAd | decOpen | decRead | decReset | decClose =>
    simp [Instr.isCommand, encode] at h

/-- With no read in progress, none waits for a header. -/
theorem State.awaitsHeader_of_not_reading {s : State} (h : s.reading = none) : s.awaitsHeader = none := by
  simp [State.awaitsHeader, h]

/-- R18: where no read waits for a header, a run header is refused. -/
theorem runHeader_of_not_awaited {s : State} (h : s.awaitsHeader = none) (ty : Option AdType) (extra : Nat) :
    runHeader ty extra s = .refused .notInRead := by
  simp [runHeader, h]

/-- Settles O38: an instruction that is no command is a run header, and no read waits for it. -/
theorem runHeaderIsNoCommand : Obligations.RunHeaderIsNoCommand := by
  intro i s hi hs
  obtain ⟨ty, extra, hexec⟩ := exec_of_not_isCommand hi s
  rw [hexec, runHeader_of_not_awaited (State.awaitsHeader_of_not_reading hs)]

/-! ### The invariant and DEC_RESET (R137, R138)

`Ctx.ok` asks a FAULTED context for its stream alone, so its `runLeft` may be any number. DEC_RESET of an FR stream rewrites
`key` and `cursor` and leaves `runLeft` as it was (R138), while `Ctx.positionOk` bounds `runLeft` by 64 in every context that
is not FAULTED, FR streams included. -/

/-- R138: DEC_RESET of an FR stream keeps `runLeft`. -/
theorem Ctx.rewind_runLeft_of_lossy {cx : Ctx} (h : cx.lossy = true) (m : List Host.Cell) :
    (cx.rewind m).runLeft = cx.runLeft := by
  simp [Ctx.rewind, h]

/-- R131, R138: the state of a rewound context is the one its T gives. -/
theorem Ctx.rewind_st (cx : Ctx) (m : List Host.Cell) : (cx.rewind m).st = stateFor cx.total .idle := by
  unfold Ctx.rewind
  split <;> rfl

/-- R34: an open context at the start of its stream is IDLE or EXHAUSTED. -/
theorem stateFor_idle (left : Word) : stateFor left .idle = .exhausted ∨ stateFor left .idle = .idle := by
  unfold stateFor
  split <;> simp

/-- R37, R88: outside the states CLOSED and FAULTED the invariant bounds `runLeft`. -/
theorem Ctx.runLeft_le_of_ok {cx : Ctx} (h : cx.ok = true) (hc : cx.st ≠ .closed) (hf : cx.st ≠ .faulted) :
    cx.runLeft ≤ Config.adRunMax := by
  simp only [Ctx.ok, hc, hf, Ctx.positionOk, if_false, decide_false, Bool.false_or, Bool.and_eq_true,
    decide_eq_true_eq] at h
  obtain ⟨-, -, ⟨-, hrun⟩, -⟩ := h
  exact hrun

/-- A rewound FR context whose `runLeft` is too large is not one the invariant allows. -/
theorem Ctx.rewind_not_ok {cx : Ctx} (hl : cx.lossy = true) (hr : Config.adRunMax < cx.runLeft) (m : List Host.Cell) :
    ¬ (cx.rewind m).ok = true := by
  intro hok
  have hst := stateFor_idle cx.total
  rw [← Ctx.rewind_st cx m] at hst
  have hle := Ctx.runLeft_le_of_ok hok (by rcases hst with h | h <;> simp [h]) (by rcases hst with h | h <;> simp [h])
  rw [Ctx.rewind_runLeft_of_lossy hl] at hle
  omega

/-- A FAULTED context on an FR stream of one frame at address 0, whose `runLeft` is one more than a run can have. -/
def faultedCtx : Ctx :=
  { Ctx.closed with st := .faulted, len := 12, frames := 1, lossy := true, total := 1, runLeft := 65 }

/-- The block after reset, with `faultedCtx` for its context 0 and the word of DEC_RESET 0 about to be written to CMD. -/
def resetOfFaulted : State :=
  { State.reset with inbox := [.regWrite 4 0x04#8 0x22#32], ctxs := [faultedCtx] }

/-- The same after the step: DEC_RESET has rewound the context. -/
def afterResetOfFaulted : State :=
  { State.reset with cmd := 0x22, res0 := 1, ctxs := [faultedCtx.rewind []] }

theorem resetOfFaulted_inv : resetOfFaulted.inv = true := by decide

theorem step_resetOfFaulted : step resetOfFaulted = .next afterResetOfFaulted := rfl

theorem afterResetOfFaulted_not_inv : ¬ afterResetOfFaulted.inv = true := by
  intro h
  simp only [State.inv, Bool.and_eq_true, List.all_eq_true] at h
  obtain ⟨⟨-, hctxs⟩, -⟩ := h
  exact Ctx.rewind_not_ok (cx := faultedCtx) rfl (by decide) [] (hctxs _ (List.mem_singleton_self _))

/-- Refutes O53: DEC_RESET of a FAULTED context on an FR stream keeps a `runLeft` of 65, which the invariant lets a FAULTED
context have and no other. `Ctx.scramble`, which makes FAULTED contexts, leaves at most 64 there, so an invariant that bounds
`runLeft` in FAULTED contexts too would shut this state out. -/
theorem not_everyStepKeepsTheMachineConsistent : ¬ Obligations.EveryStepKeepsTheMachineConsistent := by
  intro h
  exact afterResetOfFaulted_not_inv (h resetOfFaulted afterResetOfFaulted resetOfFaulted_inv step_resetOfFaulted)

end Sys2Proof.Machine
end

/-! PROOFS. The register window, reset, and what an instruction leaves unchanged: the host's accesses (R23, R27, R31,
R32), the views ID, STATUS and CTX_STATE (R24, R26, R30), the reset of the block (R163), the frame of every
instruction (R20, R29), and the contexts a command changes (R34, R141). -/

namespace Sys2Proof.Machine

/-! ### The window and the fields of the state -/

/-- R23: the window shows neither what the host does next nor what it has read (log 2). -/
theorem readWindow_hostSide (s : State) (rest : List HostAction) (v : Word) (o : Nat) :
    State.readWindow { s with inbox := rest, hostData := v } o = s.readWindow o := rfl

/-- R27: an ARG register stands at its own offset and at no other. -/
theorem readWindow_args (s : State) (a b c d : Word) {o : Nat} (ha : o = 0x0C → a = s.arg0) (hb : o = 0x10 → b = s.arg1)
    (hc : o = 0x14 → c = s.arg2) (hd : o = 0x18 → d = s.arg3) :
    State.readWindow { s with arg0 := a, arg1 := b, arg2 := c, arg3 := d } o = s.readWindow o := by
  unfold State.readWindow
  split
  case h_4 => exact ha rfl
  case h_5 => exact hb rfl
  case h_6 => exact hc rfl
  case h_7 => exact hd rfl
  all_goals rfl

/-- R31: an offset above CTX_STATE is reserved and reads 0. -/
theorem readWindow_reserved (s : State) {o : Nat} (h : 0x44 ≤ o) : s.readWindow o = 0 := by
  unfold State.readWindow
  split
  case h_18 => rfl
  all_goals omega

/-! ### Writes of the window -/

/-- R23: the offsets of ARG0 to ARG3. -/
def argOffsets : List Nat := [0x0C, 0x10, 0x14, 0x18]

theorem mem_argOffsets_iff {o : Nat} : o ∈ argOffsets ↔ o = 0x0C ∨ o = 0x10 ∨ o = 0x14 ∨ o = 0x18 := by
  simp [argOffsets]

/-- R27: a written ARG register reads back the value. -/
theorem readWindow_writeWindow_same (s : State) (v : Word) {o : Nat} (h : o ∈ argOffsets) :
    (s.writeWindow o v).readWindow o = v := by
  rcases mem_argOffsets_iff.mp h with rfl | rfl | rfl | rfl <;> rfl

/-- R27: a write of one register leaves the others alone. -/
theorem readWindow_writeWindow_other (s : State) (v : Word) {o p : Nat} (h : o ≠ p) :
    (s.writeWindow p v).readWindow o = s.readWindow o := by
  unfold State.writeWindow
  split
  · exact readWindow_args s v _ _ _ (absurd · h) (fun _ => rfl) (fun _ => rfl) (fun _ => rfl)
  · exact readWindow_args s _ v _ _ (fun _ => rfl) (absurd · h) (fun _ => rfl) (fun _ => rfl)
  · exact readWindow_args s _ _ v _ (fun _ => rfl) (fun _ => rfl) (absurd · h) (fun _ => rfl)
  · exact readWindow_args s _ _ _ v (fun _ => rfl) (fun _ => rfl) (fun _ => rfl) (absurd · h)
  · rfl

/-- R31: a write of a read-only register or of a reserved offset is ignored. -/
theorem writeWindow_ignored (s : State) (v : Word) {o : Nat} (h : o ∉ argOffsets) : s.writeWindow o v = s := by
  unfold State.writeWindow
  split
  case h_5 => rfl
  all_goals exact absurd (by decide) h

@[simp] theorem writeWindow_reading (s : State) (o : Nat) (v : Word) : (s.writeWindow o v).reading = s.reading := by
  unfold State.writeWindow
  split <;> rfl

@[simp] theorem writeWindow_inbox (s : State) (o : Nat) (v : Word) : (s.writeWindow o v).inbox = s.inbox := by
  unfold State.writeWindow
  split <;> rfl

/-! ### Steps that take a host action (R176) -/

section HostSteps

variable {s : State} {rest : List HostAction}

/-- R176: with no read in progress a step takes the host's next action. -/
theorem step_of_action {a : HostAction} (hr : s.reading = none) (hi : s.inbox = a :: rest) :
    step s = perform a { s with inbox := rest } := by
  simp [step, hr, hi]

/-- R32: only an aligned 32-bit access reaches a register. -/
theorem windowAligned_iff (width : Nat) (off : Byte) :
    windowAligned width off = true ↔ width = 4 ∧ off.toNat % 4 = 0 := by
  simp [windowAligned]

/-- R176: an aligned register read puts the register into hostData. -/
theorem step_regRead {off : Byte} (hr : s.reading = none) (hi : s.inbox = .regRead 4 off :: rest)
    (ha : off.toNat % 4 = 0) : step s = .next { s with inbox := rest, hostData := s.readWindow off.toNat } := by
  rw [step_of_action hr hi, perform, hostRegRead, if_pos ((windowAligned_iff 4 off).mpr ⟨rfl, ha⟩)]
  rfl

/-- R27, R31: an aligned register write at another offset than CMD's. -/
theorem step_regWrite {off : Byte} {v : Word} (hr : s.reading = none) (hi : s.inbox = .regWrite 4 off v :: rest)
    (ha : off.toNat % 4 = 0) (hc : off.toNat ≠ cmdOffset) :
    step s = .next (State.writeWindow { s with inbox := rest } off.toNat v) := by
  rw [step_of_action hr hi, perform, hostRegWrite, if_pos ((windowAligned_iff 4 off).mpr ⟨rfl, ha⟩), if_neg hc]

/-- R25: an aligned write of CMD runs the command of its word. -/
theorem step_cmdWrite {w : Word} (hr : s.reading = none) (hi : s.inbox = .regWrite 4 0x04#8 w :: rest) :
    step s = runCommand w { s with inbox := rest } := by
  rw [step_of_action hr hi, perform, hostRegWrite, if_pos ((windowAligned_iff 4 _).mpr ⟨rfl, by decide⟩),
    if_pos (by decide)]

end HostSteps

/-- R25: a legal word runs its instruction, with the word in CMD. -/
theorem runCommand_of_ok {w : Word} {i : Instr} (h : decodeWord w = .ok i) (s : State) :
    runCommand w s = exec i { s with cmd := w } := by
  simp [runCommand, h]

/-- R70: an illegal word raises ILLEGAL_CMD, with the word in CMD. -/
theorem runCommand_of_error {w : Word} {e : DecodeError} (h : decodeWord w = .error e) (s : State) :
    runCommand w s = .next (State.raise { s with cmd := w } .illegalCmd) := by
  simp [runCommand, h]

/-- Settles O5: the step is a CMD write, and the word is legal or not. -/
theorem stepRunsTheCommandWritten : Obligations.StepRunsTheCommandWritten := by
  intro s w rest hr hi
  rw [step_cmdWrite hr hi]
  exact ⟨fun i h => runCommand_of_ok h _, fun e h => runCommand_of_error h _⟩

/-- A window offset stands in a list of bytes exactly when its value stands in the list of their values. -/
theorem byte_mem_iff (off : Byte) (l : List Byte) : off ∈ l ↔ off.toNat ∈ l.map BitVec.toNat :=
  (List.mem_map_of_injective fun _ _ => BitVec.eq_of_toNat_eq).symm

/-- Settles O9: each clause is one kind of step, and the register an offset names. -/
theorem windowAccessRules : Obligations.WindowAccessRules := by
  refine ⟨fun s off v rest hr hi hv => ?register, fun s addr rest hr hi => ?memory,
    fun s off rest hr ha ho hi => ?reserved, fun s v off rest hr ha ho hi => ?readOnly,
    fun s width off v rest hr hw => ⟨fun hi => ?badRead, fun hi => ?badWrite⟩⟩
  case register =>
    have hreg : off.toNat % 4 = 0 ∧ v = s.readWindow off.toNat := by
      rcases hv with ⟨rfl, rfl⟩ | ⟨rfl, rfl⟩ | ⟨rfl, rfl⟩ | ⟨rfl, rfl⟩ | ⟨rfl, rfl⟩ | ⟨rfl, rfl⟩ | ⟨rfl, rfl⟩ |
        ⟨rfl, rfl⟩ | ⟨rfl, rfl⟩ | ⟨rfl, rfl⟩ | ⟨rfl, rfl⟩ | ⟨rfl, rfl⟩ | ⟨rfl, rfl⟩ | ⟨rfl, rfl⟩ |
        ⟨rfl, rfl⟩ | ⟨rfl, rfl⟩ | ⟨rfl, rfl⟩ <;>
      exact ⟨rfl, rfl⟩
    obtain ⟨ha, rfl⟩ := hreg
    exact step_regRead hr hi ha
  case memory =>
    refine ⟨_, step_of_action hr hi, rfl, ?_⟩
    exact BitVec.toNat_setWidth_of_le (by decide)
  case reserved => rw [step_regRead hr hi ha, readWindow_reserved s ho]
  case readOnly =>
    rw [byte_mem_iff] at ho
    obtain ⟨hcmd, harg⟩ : off.toNat ≠ cmdOffset ∧ off.toNat ∉ argOffsets := by
      simpa [argOffsets, cmdOffset] using ho
    rw [step_regWrite hr hi ha hcmd, writeWindow_ignored _ v harg]
  case badRead =>
    have hbad : ¬ windowAligned width off = true := by rw [windowAligned_iff]; omega
    rw [step_of_action hr hi, perform, hostRegRead, if_neg hbad]
  case badWrite =>
    have hbad : ¬ windowAligned width off = true := by rw [windowAligned_iff]; omega
    rw [step_of_action hr hi, perform, hostRegWrite, if_neg hbad]

/-! ### ID, STATUS and CTX_STATE -/

/-- R24: the value of ID. -/
theorem idWord_toNat {s : State} (h : s.numCtx ≤ 8) : s.idWord.toNat = 0x46410001 + s.numCtx * 0x100 := by
  rw [State.idWord, BitVec.toNat_ofNat]
  omega

/-- Settles O10, from the value of ID and the codes of R149. -/
theorem idAndStatusFields : Obligations.IdAndStatusFields := by
  refine ⟨fun s h1 h8 => ?id, fun s => ?status⟩
  case id =>
    have hid : (s.readWindow 0x00).toNat = 0x46410001 + s.numCtx * 0x100 := idWord_toNat h8
    refine ⟨by omega, by omega, by omega, fun hn => BitVec.eq_of_toNat_eq ?_⟩
    rw [hid, hn]
    rfl
  case status =>
    have hst : s.readWindow 0x08 = BitVec.ofNat 32 s.err.code := rfl
    cases he : s.err <;> simp [hst, he, ErrCode.code]

/-- R30: a state code fits its nibble. -/
theorem CtxState.code_lt (st : CtxState) : st.code < 16 := by
  cases st <;> decide

/-- R30: a list of contexts takes a nibble each. -/
theorem ctxNibbles_lt (cs : List Ctx) : ctxNibbles cs < 16 ^ cs.length := by
  induction cs with
  | nil => simp [ctxNibbles]
  | cons cx rest ih =>
    have := CtxState.code_lt cx.st
    simp only [ctxNibbles, List.length_cons, Nat.pow_succ]
    omega

/-- R30: nibble `i` is the code of context `i`, and 0 above the contexts. -/
theorem ctxNibbles_nibble (cs : List Ctx) (i : Nat) :
    ctxNibbles cs / 16 ^ i % 16 = (cs[i]?.map fun cx => cx.st.code).getD 0 := by
  induction cs generalizing i with
  | nil => simp [ctxNibbles]
  | cons cx rest ih =>
    have hlt := CtxState.code_lt cx.st
    cases i with
    | zero =>
      simp only [ctxNibbles, pow_zero, Nat.div_one, List.getElem?_cons_zero, Option.map_some, Option.getD_some]
      omega
    | succ i =>
      have hdiv : (cx.st.code + 16 * ctxNibbles rest) / 16 = ctxNibbles rest := by omega
      rw [ctxNibbles, Nat.pow_succ', ← Nat.div_div_eq_div_mul, hdiv, ih, List.getElem?_cons_succ]

/-- R30: closed contexts have the code 0. -/
theorem ctxNibbles_of_closed {cs : List Ctx} (h : ∀ cx ∈ cs, cx = Ctx.closed) : ctxNibbles cs = 0 := by
  induction cs with
  | nil => rfl
  | cons cx rest ih =>
    obtain ⟨rfl, hrest⟩ := List.forall_mem_cons.mp h
    simp [ctxNibbles, ih hrest, Ctx.closed, CtxState.code]

/-- R30: 8 nibbles fit CTX_STATE. -/
theorem ctxStateWord_toNat {s : State} (h : s.numCtx ≤ 8) : s.ctxStateWord.toNat = ctxNibbles s.ctxs := by
  have hlt : ctxNibbles s.ctxs < 2 ^ 32 :=
    calc ctxNibbles s.ctxs < 16 ^ s.numCtx := ctxNibbles_lt s.ctxs
      _ ≤ 16 ^ 8 := Nat.pow_le_pow_right (by decide) h
      _ = 2 ^ 32 := by decide
  rw [State.ctxStateWord, BitVec.toNat_ofNat, Nat.mod_eq_of_lt hlt]

/-- Settles O11, from the nibbles of the context list. -/
theorem ctxStateHoldsTheCodes : Obligations.CtxStateHoldsTheCodes := by
  intro s hn i _
  have hnib : (s.readWindow 0x40).toNat / 16 ^ i % 16 = (s.ctxs[i]?.map fun cx => cx.st.code).getD 0 :=
    ctxStateWord_toNat hn ▸ ctxNibbles_nibble s.ctxs i
  rw [hnib]
  refine ⟨fun cx hcx => ?_, fun hi => ?_⟩
  · cases hst : cx.st <;> simp [hcx, hst, CtxState.code]
  · simp [List.getElem?_eq_none hi]

/-! ### The reset of the block (R163) -/

/-- R41, R163: every context is CLOSED after a reset. -/
theorem blockReset_ctxs_closed (s : State) : ∀ cx ∈ s.blockReset.ctxs, cx = Ctx.closed := by
  simp [State.blockReset]

/-- R33: a reset keeps the number of contexts. -/
theorem blockReset_numCtx (s : State) : s.blockReset.numCtx = s.numCtx := by
  simp [State.blockReset, State.numCtx]

/-- R24: a reset keeps ID. -/
theorem blockReset_readWindow_id (s : State) : s.blockReset.readWindow 0 = s.readWindow 0 :=
  congrArg (fun n => BitVec.ofNat 32 (0x46410001 + n * 0x100)) (blockReset_numCtx s)

/-- R23, R163: every other register reads 0 after a reset. -/
theorem blockReset_readWindow (s : State) {o : Nat} (h : o ≠ 0) : s.blockReset.readWindow o = 0 := by
  unfold State.readWindow
  split
  case h_1 => exact absurd rfl h
  case h_17 => rw [State.ctxStateWord, ctxNibbles_of_closed (blockReset_ctxs_closed s)]; rfl
  all_goals rfl

/-- The state after reset is what a reset makes of it. -/
theorem reset_blockReset : State.reset.blockReset = State.reset := rfl

/-- Settles O13: the step is `blockReset`, which keeps memory by definition. -/
theorem blockResetKeepsMemory : Obligations.BlockResetKeepsMemory := by
  intro s rest hr hi
  refine ⟨State.blockReset { s with inbox := rest }, step_of_action hr hi, rfl, blockReset_numCtx _,
    blockReset_ctxs_closed _, fun o ho => blockReset_readWindow _ ho, blockReset_readWindow_id _⟩

/-- Settles O12: the reset state is its own reset; ID and the fields of `Ctx.closed` are as the model writes them. -/
theorem resetValues : Obligations.ResetValues := by
  refine ⟨fun o ho => ?_, rfl, rfl, rfl⟩
  rw [← reset_blockReset]
  exact blockReset_readWindow _ ho

/-- R41, R140: a closed context is one a run can hold. -/
theorem Ctx.closed_ok : Ctx.closed.ok = true := by
  simp [Ctx.ok, Ctx.closed]

/-- Settles O52: memory lists nothing, the one context is closed, and no read is in progress. -/
theorem resetStateSatisfiesTheInvariant : Obligations.ResetStateSatisfiesTheInvariant := by
  simp [Obligations.ResetStateSatisfiesTheInvariant, State.inv, State.reset, memWf, memInSpace, State.numCtx,
    Ctx.closed_ok]

/-! ### What an instruction leaves unchanged (R20, R29) -/

/-- R20, R25: the registers the host writes, and what is not the block's (log 2, log 4), are the same. -/
@[simp] def State.keepsHostSide (s t : State) : Prop :=
  t.arg0 = s.arg0 ∧ t.arg1 = s.arg1 ∧ t.arg2 = s.arg2 ∧ t.arg3 = s.arg3 ∧ t.cmd = s.cmd ∧
    t.platform = s.platform ∧ t.inbox = s.inbox ∧ t.hostData = s.hostData

/-- R29: the diagnostic counters are the same. -/
@[simp] def State.keepsDiag (s t : State) : Prop :=
  t.diagSmall = s.diagSmall ∧ t.diagMedium = s.diagMedium ∧ t.diagFull = s.diagFull ∧ t.diagRuns = s.diagRuns ∧
    t.diagSat = s.diagSat

/-- What every instruction but a completed ENC_AD leaves unchanged. -/
@[simp] def State.keeps (s t : State) : Prop := s.keepsHostSide t ∧ s.keepsDiag t

/-- R151: an error changes STATUS alone. -/
theorem raise_keeps (s : State) (e : ErrCode) : s.keeps (s.raise e) := by
  simp

/-- R135: a stream error changes STATUS, the context and memory. -/
theorem failRead_keeps (s : State) (c : Nat) (cx : Ctx) (dst k : Nat) (e : ErrCode) :
    s.keeps (s.failRead c cx dst k e) := by
  simp

/-- R171: a read of a changed stream ends as a read does, or with a stream error. -/
theorem staleRead_keeps (s : State) (c : Nat) (cx : Ctx) (dst k left : Nat) :
    s.keeps (s.staleRead c cx dst k left) := by
  rcases staleRead_cases s c cx dst k left with h | h | h
  · simp [h]
  · exact h ▸ failRead_keeps ..
  · exact h ▸ failRead_keeps ..

/-- R134, R135: a unit of a read in progress is delivered, or ends the read with its error. -/
theorem endUnit_keeps (s : State) (job : ReadJob) (cx : Ctx) (r : Except ErrCode (List Frame × Ctx)) :
    s.keeps (s.endUnit job cx r) := by
  cases r with
  | error e => exact failRead_keeps ..
  | ok p =>
    simp only [State.endUnit, State.deliverUnit]
    split <;> simp

theorem runHeader_keeps {s t : State} {ty : Option AdType} {extra : Nat} (h : runHeader ty extra s = .next t) :
    s.keeps t := by
  obtain ⟨job, cx, -, -, rfl⟩ := runHeader_next h
  exact endUnit_keeps ..

theorem execDecRead_keeps {s t : State} {c : Nat} (h : execDecRead c s = .next t) : s.keeps t := by
  rcases execDecRead_next h with ⟨e, -, rfl⟩ | ⟨cx, k, -, -, ⟨-, rfl⟩ | ⟨-, e, -, rfl⟩ | ⟨-, fs, cx', -, rfl⟩⟩
  · exact raise_keeps s e
  · exact staleRead_keeps ..
  · exact failRead_keeps ..
  · simp

/-- R29: ENC_AD ends with an error and changes no counter, or ends OK. -/
theorem execEncAd_keeps {s t : State} {stereo : Bool} (h : execEncAd stereo s = .next t) :
    s.keeps t ∨ (s.keepsHostSide t ∧ t.err = .ok) := by
  rcases execEncAd_next h with ⟨e, -, rfl⟩ | ⟨-, rfl⟩
  · exact .inl (raise_keeps s e)
  · exact .inr (by simp)

/-- R20, R25, R29: what an instruction leaves unchanged. -/
theorem exec_keeps {i : Instr} {s t : State} (h : exec i s = .next t) :
    s.keeps t ∨ ((∃ stereo, i = .encAd stereo) ∧ s.keepsHostSide t ∧ t.err = .ok) := by
  cases i with
  | nop =>
    obtain rfl := execNop_next h
    simp
  | cvtF32 =>
    rcases execCvtF32_next h with ⟨e, -, rfl⟩ | ⟨-, rfl⟩ <;> simp
  | hdrWrite stereo lossy =>
    rcases execHdrWrite_next h with ⟨e, -, rfl⟩ | ⟨-, rfl⟩ <;> simp
  | encFr stereo =>
    rcases execEncFr_next h with ⟨e, -, rfl⟩ | ⟨-, rfl⟩ <;> simp
  | encAd stereo => exact (execEncAd_keeps h).imp_right fun hok => ⟨⟨stereo, rfl⟩, hok⟩
  | decOpen c =>
    rcases execDecOpen_next h with ⟨e, -, rfl⟩ | ⟨p, -, rfl⟩ <;> simp
  | decRead c => exact .inl (execDecRead_keeps h)
  | decReset c =>
    rcases execDecReset_next h with ⟨e, -, rfl⟩ | ⟨cx, -, -, rfl⟩ <;> simp
  | decClose c =>
    rcases execDecClose_next h with ⟨e, -, rfl⟩ | ⟨cx, -, rfl⟩ <;> simp
  | adSmall | adMedium | adFull | adReserved => exact .inl (runHeader_keeps h)

/-- Settles O8: two steps of the window, and the frame of every instruction. -/
theorem argRegistersHoldWhatTheHostWrote : Obligations.ArgRegistersHoldWhatTheHostWrote := by
  refine ⟨fun s v off rest hr hoff hi => ?window, fun i s t h => ?frame⟩
  case window =>
    have harg : off.toNat ∈ argOffsets := (byte_mem_iff _ _).mp hoff
    have haligned : off.toNat % 4 = 0 := by rw [mem_argOffsets_iff] at harg; omega
    have hcmd : off.toNat ≠ cmdOffset := by rw [mem_argOffsets_iff] at harg; simp only [cmdOffset]; omega
    refine ⟨_, _, step_regWrite hr hi haligned hcmd, step_regRead (rest := rest) ((writeWindow_reading ..).trans hr)
      (writeWindow_inbox ..) haligned, ?readBack, fun o ho => ?others⟩
    case readBack => exact readWindow_writeWindow_same _ v harg
    case others =>
      rw [readWindow_hostSide, readWindow_writeWindow_other _ v ho]
      exact readWindow_hostSide s _ _ o
  case frame =>
    rcases exec_keeps h with ⟨hhost, -⟩ | ⟨-, hhost, -⟩ <;> exact hhost

/-- Settles O57: a completed ENC_AD is the one case in which the frame of the instructions leaves the counters out. -/
theorem diagWrittenOnlyByEncAd : Obligations.DiagWrittenOnlyByEncAd := by
  intro i s t h hi
  rcases exec_keeps h with ⟨-, hdiag⟩ | ⟨⟨stereo, rfl⟩, -, hok⟩
  · exact hdiag
  · exact hi.elim (fun hne => absurd rfl (hne stereo)) (fun hne => absurd hok hne)

/-! ### The contexts a command changes (R34, R141) -/

/-- R141: the commands that name context `c`. -/
def namesCtx (i : Instr) (c : Nat) : Prop := i = .decOpen c ∨ i = .decRead c ∨ i = .decReset c ∨ i = .decClose c

/-- R34, R141: no context changes, or context `c` alone does. Its state moves as R34 lists for `i`, provided an
EXHAUSTED context has no frames left. -/
def State.movesOnly (i : Instr) (c : Nat) (s t : State) : Prop :=
  t.ctxs = s.ctxs ∨
  ∃ cx cx', s.ctxs[c]? = some cx ∧ t.ctxs = s.ctxs.set c cx' ∧
    ((cx.st = .exhausted → cx.remaining = 0) → cx'.st = cx.st ∨ mayMove i cx.st cx'.st = true)

section MovesOnly

variable {s t : State} {i : Instr} {c j : Nat} {cx cx' : Ctx}

theorem movesOnly_other (h : State.movesOnly i c s t) (hj : j ≠ c) : t.ctxs[j]? = s.ctxs[j]? := by
  rcases h with h | ⟨a, b, -, h, -⟩
  · rw [h]
  · rw [h, List.getElem?_set_ne hj.symm]

theorem movesOnly_same (h : State.movesOnly i c s t) (hs : s.ctxs[c]? = some cx) (ht : t.ctxs[c]? = some cx')
    (hex : cx.st = .exhausted → cx.remaining = 0) : cx'.st = cx.st ∨ mayMove i cx.st cx'.st = true := by
  rcases h with h | ⟨a, b, ha, h, hmove⟩
  · rw [h, hs] at ht
    cases ht
    exact .inl rfl
  · obtain ⟨hlt, -⟩ := List.getElem?_eq_some_iff.mp hs
    rw [h, List.getElem?_set_self hlt] at ht
    rw [hs] at ha
    cases ht
    cases ha
    exact hmove hex

/-- R131: DEC_OPEN takes its context from CLOSED to IDLE or EXHAUSTED. -/
theorem execDecOpen_movesOnly (h : execDecOpen c s = .next t) : State.movesOnly (.decOpen c) c s t := by
  rcases execDecOpen_next h with ⟨e, -, rfl⟩ | ⟨p, hp, rfl⟩
  · exact .inl rfl
  · obtain ⟨⟨cx, hcx, hclosed⟩, -⟩ := decOpenCheck_ok hp
    refine .inr ⟨cx, _, hcx, rfl, fun _ => .inr ?_⟩
    rw [openedCtx, Ctx.rewind_st]
    rcases stateFor_idle (BitVec.ofNat 32 (totalFrames p)) with hst | hst <;> simp [mayMove, hclosed, hst]

/-- R138: DEC_RESET takes an open context to IDLE or EXHAUSTED. -/
theorem execDecReset_movesOnly (h : execDecReset c s = .next t) : State.movesOnly (.decReset c) c s t := by
  rcases execDecReset_next h with ⟨e, -, rfl⟩ | ⟨cx, hcx, -, rfl⟩
  · exact .inl rfl
  · obtain ⟨hget, hopen⟩ := openCtxCheck_ok hcx
    refine .inr ⟨cx, _, hget, rfl, fun _ => .inr ?_⟩
    rw [Ctx.rewind_st]
    rcases stateFor_idle cx.total with hst | hst <;> simp [mayMove, hopen, hst]

/-- R140: DEC_CLOSE takes an open context to CLOSED. -/
theorem execDecClose_movesOnly (h : execDecClose c s = .next t) : State.movesOnly (.decClose c) c s t := by
  rcases execDecClose_next h with ⟨e, -, rfl⟩ | ⟨cx, hcx, rfl⟩
  · exact .inl rfl
  · obtain ⟨hget, hopen⟩ := openCtxCheck_ok hcx
    exact .inr ⟨cx, _, hget, rfl, fun _ => .inr (by simp [mayMove, hopen, Ctx.closed])⟩

/-- R134: an OK read of `k` frames leaves the state as it was when `k` is 0, and otherwise goes from IDLE or READING to
READING or EXHAUSTED. -/
theorem account_moves {count : Word} {k : Nat} (hk : k = deliverCount cx count) (hopen : cx.st ≠ .closed)
    (hfault : cx.st ≠ .faulted) (hst : cx'.st = cx.st) (hex : cx.st = .exhausted → cx.remaining = 0) :
    (cx'.account k).st = cx.st ∨ mayMove (.decRead c) cx.st (cx'.account k).st = true := by
  by_cases h0 : k = 0
  · simp [Ctx.account, h0, hst]
  · have hfrom : cx.st = .idle ∨ cx.st = .reading := by
      cases hcx : cx.st with
      | idle => exact .inl rfl
      | reading => exact .inr rfl
      | closed => exact absurd hcx hopen
      | faulted => exact absurd hcx hfault
      | exhausted => exact absurd (by simp [hk, deliverCount, hex hcx]) h0
    have hto : (cx'.account k).st = .reading ∨ (cx'.account k).st = .exhausted := by
      simp only [Ctx.account, h0, if_false, stateFor]
      split <;> simp
    right
    simp [mayMove, hfrom, hto]

/-- R135: a read that meets a stream error faults its context. -/
theorem mayMove_decRead_faulted (hopen : cx.st ≠ .closed) (hfault : cx.st ≠ .faulted) :
    mayMove (.decRead c) cx.st .faulted = true := by
  simp [mayMove, hopen, hfault]

/-- R134, R135, R171: DEC_READ delivers frames, of a changed stream or not, or faults its context. -/
theorem execDecRead_movesOnly (h : execDecRead c s = .next t) : State.movesOnly (.decRead c) c s t := by
  rcases execDecRead_next h with ⟨e, -, rfl⟩ | ⟨cx, k, hcheck, -, hread⟩
  · exact .inl rfl
  obtain ⟨hget, hopen, hfault, hk, -⟩ := decReadCheck_ok hcheck
  have hmove : ∀ cx', (cx'.st = cx.st ∧ t.ctxs = s.ctxs.set c (cx'.account k)) ∨
      (cx'.st = .faulted ∧ t.ctxs = s.ctxs.set c cx') → State.movesOnly (.decRead c) c s t := by
    rintro cx' (⟨hst, ht⟩ | ⟨hst, ht⟩)
    · exact .inr ⟨cx, _, hget, ht, account_moves hk hopen hfault hst⟩
    · exact .inr ⟨cx, _, hget, ht, fun _ => .inr (hst ▸ mayMove_decRead_faulted hopen hfault)⟩
  rcases hread with ⟨-, rfl⟩ | ⟨-, e, -, rfl⟩ | ⟨-, fs, cx', hfs, rfl⟩
  · rcases staleRead_cases s c cx s.arg0.toNat k k with hstale | hstale | hstale
    · exact hmove (cx.staleAfter k s.freeTick) (.inl ⟨rfl, congrArg State.ctxs hstale⟩)
    · exact hmove _ (.inr ⟨rfl, congrArg State.ctxs hstale⟩)
    · exact hmove _ (.inr ⟨rfl, congrArg State.ctxs hstale⟩)
  · exact hmove _ (.inr ⟨rfl, rfl⟩)
  · obtain ⟨hst, -⟩ := readFrames_sameStream hfs
    exact hmove cx' (.inl ⟨hst, rfl⟩)

/-- R141: a command that names no context changes none. -/
theorem exec_ctxs_of_unnamed (hcmd : i.isCommand = true) (h : exec i s = .next t) (hn : ∀ c, ¬ namesCtx i c) :
    t.ctxs = s.ctxs := by
  cases i with
  | nop => rw [execNop_next h]; rfl
  | cvtF32 => rcases execCvtF32_next h with ⟨e, -, rfl⟩ | ⟨-, rfl⟩ <;> rfl
  | hdrWrite => rcases execHdrWrite_next h with ⟨e, -, rfl⟩ | ⟨-, rfl⟩ <;> rfl
  | encFr => rcases execEncFr_next h with ⟨e, -, rfl⟩ | ⟨-, rfl⟩ <;> rfl
  | encAd => rcases execEncAd_next h with ⟨e, -, rfl⟩ | ⟨-, rfl⟩ <;> rfl
  | decOpen c | decRead c | decReset c | decClose c => exact absurd (by simp [namesCtx]) (hn c)
  | adSmall | adMedium | adFull | adReserved => simp [Instr.isCommand, encode] at hcmd

/-- R34, R141: a command that names context `c` changes no other, and its state as R34 lists. -/
theorem exec_movesOnly (h : exec i s = .next t) (hn : namesCtx i c) : State.movesOnly i c s t := by
  rcases hn with rfl | rfl | rfl | rfl
  · exact execDecOpen_movesOnly h
  · exact execDecRead_movesOnly h
  · exact execDecReset_movesOnly h
  · exact execDecClose_movesOnly h

/-- Each context of a state with the invariant is one a run can hold. -/
theorem ok_of_inv (h : s.inv = true) (hc : s.ctxs[c]? = some cx) : cx.ok = true := by
  simp only [State.inv, Bool.and_eq_true, List.all_eq_true] at h
  obtain ⟨⟨-, hall⟩, -⟩ := h
  exact hall cx (List.mem_of_getElem? hc)

/-- R34: an EXHAUSTED context has no frames left. -/
theorem Ctx.remaining_of_exhausted (h : cx.ok = true) (hst : cx.st = .exhausted) : cx.remaining = 0 := by
  simp only [Ctx.ok, Ctx.stateOk, hst, reduceCtorEq, if_false, decide_false, Bool.false_or, Bool.and_eq_true,
    decide_eq_true_eq] at h
  obtain ⟨-, ⟨hrem, -⟩, -⟩ := h
  exact hrem

end MovesOnly

/-- Settles O60: the command names context `j`, another context, or none. -/
theorem contextsAreIndependent : Obligations.ContextsAreIndependent := by
  intro i s t j cx cx' hcmd h hs ht
  refine ⟨fun hinv hj => ?moves, fun hj => ?frame⟩
  case moves =>
    exact movesOnly_same (exec_movesOnly h hj) hs ht (Ctx.remaining_of_exhausted (ok_of_inv hinv hs))
  case frame =>
    have hsame : t.ctxs[j]? = s.ctxs[j]? := by
      by_cases hn : ∃ c, namesCtx i c
      · obtain ⟨c, hc⟩ := hn
        exact movesOnly_other (exec_movesOnly h hc) (by rintro rfl; exact hj hc)
      · rw [exec_ctxs_of_unnamed hcmd h (not_exists.mp hn)]
    rw [hs, ht] at hsame
    exact Option.some.inj hsame

end Sys2Proof.Machine

/-! PROOFS. Memory: regions (R45-R47), the run header a read in progress fetches (R92, R122), the memory a command may
change (R44, R54, R171), and what the host or another bus master does to open streams (R52, R57, R62, R174). -/

namespace Sys2Proof.Machine

/-! ### Regions (R45-R47) -/

/-- R45: a region is valid when it is empty, or lies in the address space and is admitted. -/
theorem valid_iff (s : State) (r : Region) :
    s.valid r = true ↔ r.size = 0 ∨ (r.base + r.size ≤ Config.addrSpace ∧ s.platform.admits r = true) := by
  simp [State.valid]

/-- R47: two regions overlap when they share a byte; the higher of their two bases is one. -/
theorem Region.overlaps_iff (r q : Region) :
    r.overlaps q = true ↔ ∃ a, (r.base ≤ a ∧ a < r.base + r.size) ∧ (q.base ≤ a ∧ a < q.base + q.size) := by
  simp only [Region.overlaps, Bool.and_eq_true, decide_eq_true_eq]
  constructor
  · intro h
    exact ⟨max r.base q.base, by omega, by omega⟩
  · rintro ⟨a, hr, hq⟩
    omega

/-- R46: no admitted region overlaps the register window. -/
theorem admits_not_overlaps_window {p : Platform} {r : Region} (h : p.admits r = true) :
    r.overlaps ⟨p.regBase, Config.windowBytes⟩ = false := by
  simp only [Platform.admits, Bool.and_eq_true, Bool.not_eq_true'] at h
  obtain ⟨-, hwindow⟩ := h
  exact hwindow

/-- Settles O15, from validity, the bytes of an overlap, and the window in `Admit`. -/
theorem regionsShareBytesOrNot : Obligations.RegionsShareBytesOrNot :=
  ⟨fun s a n => valid_iff s ⟨a, n⟩, Region.overlaps_iff,
    fun _ _ a h hlo hhi => not_overlaps (admits_not_overlaps_window h) a ⟨hlo, hhi⟩⟩

/-! ### The run header at the cursor (R92, R122) -/

/-- R122: a read in progress whose decoder needs a frame, with no chunk of its run left, waits for a header. -/
theorem State.awaitsHeader_eq {s : State} {job : ReadJob} {cx : Ctx} (hr : s.reading = some job)
    (hc : s.ctxs[job.ctx]? = some cx) (hl : cx.lossy = false) (hrun : cx.runLeft = 0) (hk : job.written < job.k)
    (hst : cx.stale = false) : s.awaitsHeader = some (job, cx) := by
  simp [State.awaitsHeader, hr, hc, hl, hrun, hk, hst]

/-- R122: a cursor inside the stream region fetches its byte. -/
theorem fetchRunHeader_eq {m : List Host.Cell} {cx : Ctx} (h : cx.cursor.toNat + 1 ≤ cx.len.toNat) :
    fetchRunHeader m cx = some (readByte m (cx.base.toNat + cx.cursor.toNat)) :=
  if_neg (by omega)

/-- R57, R92: with a read in progress, a step runs the header it has fetched. -/
theorem step_of_pendingHeader {s : State} {job : ReadJob} {b : Byte} (hr : s.reading = some job)
    (hb : s.pendingHeader = some b) : step s = exec (decodeRunHeader b) s := by
  simp [step, hr, hb]

/-- Settles O6: the read waits for a header, and the byte at the cursor is fetched. -/
theorem stepRunsTheRunHeaderAtCursor : Obligations.StepRunsTheRunHeaderAtCursor := by
  intro s job cx hr hc hl hrun hk hst hcur
  have hpend : s.pendingHeader = some (readByte s.mem (cx.base.toNat + cx.cursor.toNat)) := by
    rw [State.pendingHeader, State.awaitsHeader_eq hr hc hl hrun hk hst]
    exact fetchRunHeader_eq hcur
  exact step_of_pendingHeader hr hpend

/-! ### Memory changed inside one region -/

/-- R45: the address `a` lies outside the region. -/
def Region.misses (r : Region) (a : Nat) : Prop := a < r.base ∨ r.base + r.size ≤ a

theorem Region.misses_iff (r : Region) (a : Nat) : r.misses a ↔ ¬ (r.base ≤ a ∧ a < r.base + r.size) := by
  unfold Region.misses
  omega

/-- The empty region at 0, which stands for none, has no byte. -/
theorem Region.misses_empty (a : Nat) : (⟨0, 0⟩ : Region).misses a := .inr (Nat.zero_le a)

/-- R44: from `s` to `t` no byte outside `r` changes. -/
def State.changesOnly (s : State) (r : Region) (t : State) : Prop :=
  ∀ a, r.misses a → readByte t.mem a = readByte s.mem a

section ChangesOnly

variable {s t u : State} {r : Region} {bs : List Byte}

theorem changesOnly_of_mem_eq (h : t.mem = s.mem) (r : Region) : s.changesOnly r t := fun a _ => by rw [h]

theorem changesOnly_of_write (h : t.mem = writeBytes s.mem r.base bs) (hlen : bs.length ≤ r.size) :
    s.changesOnly r t := fun a ha => by
  rw [h]
  exact readByte_writeBytes_outside bs s.mem r.base a (ha.imp_right (Nat.add_le_add_left hlen r.base).trans)

/-- R135, R171: an unspecified event over a region changes no byte outside it. -/
theorem scramble_changesOnly (s : State) (r : Region) : s.changesOnly r (s.scramble r) :=
  changesOnly_of_write rfl (freeBytes_length _ _).le

/-- R44, R151: a command that writes nothing if its checks fail, and the bytes `bs` at its region if they pass. -/
theorem changesOnly_of_checked {checks : Except ErrCode Unit}
    (h : (∃ e, checks = .error e ∧ t = s.raise e) ∨ (checks = .ok () ∧ t = u))
    (hu : u.mem = writeBytes s.mem r.base bs) (hlen : bs.length ≤ r.size) : s.changesOnly (regionIf checks r) t := by
  rcases h with ⟨e, -, rfl⟩ | ⟨hok, rfl⟩
  · exact changesOnly_of_mem_eq rfl _
  · rw [hok]
    exact changesOnly_of_write hu hlen

end ChangesOnly

/-! ### How many bytes a command writes -/

/-- R142: the preamble has 10 bytes. -/
@[simp] theorem preambleOf_length (frames rate : Word) (stereo lossy : Bool) :
    (preambleOf frames rate stereo lossy).length = Config.preambleBytes := by
  simp [preambleOf, Config.preambleBytes]

/-- R110: CVT_F32 writes 2 bytes for each value. -/
@[simp] theorem cvtBytes_length (m : List Host.Cell) (src count : Nat) : (cvtBytes m src count).length = 2 * count := by
  simp [cvtBytes, List.length_flatMap, Nat.mul_comm]

/-- R81, R84: an FR chunk has a key and three interior frames: 2 + 3 bytes for each channel. -/
@[simp] theorem frChunkBytes_length (stereo : Bool) (x : Nat → Frame) (c : Nat) :
    (frChunkBytes stereo x c).length = 5 * channels stereo := by
  simp only [frChunkBytes, frResiduals, List.length_append, frameBytes_length, List.flatMap_cons, List.flatMap_nil,
    List.length_map, List.length_range, List.length_nil]
  omega

/-- R86: the size of an FR body. -/
@[simp] theorem frBody_length (stereo : Bool) (n : Nat) (x : Nat → Frame) :
    (frBody stereo n x).length = frBodySize (channels stereo) n := by
  simp [frBody, frBodySize, List.length_flatMap, Nat.mul_comm]

/-- R134: a read delivers at most the frames asked for: fewer only if its scratch buffer holds less than `ovfLen`. -/
theorem readFrames_length_le {m : List Host.Cell} {cx cx' : Ctx} {k : Nat} {fs : List Frame}
    (h : readFrames m cx k = .ok (fs, cx')) : fs.length ≤ k := by
  obtain ⟨rest, rfl, hrest⟩ := readFrames_ok h
  have hdrained : (drained cx k).length ≤ drainCount cx k := List.length_take_le _ _
  have hloop : rest.length = k - drainCount cx k := decodeFrames_length _ _ le_rfl hrest
  have hdrain : drainCount cx k ≤ k := Nat.min_le_left _ _
  rw [List.length_append]
  omega

/-! ### A command writes only its destination region (R44) -/

/-- R135: a stream error leaves free bytes in the read's destination. -/
theorem failRead_changesOnly (s : State) (c : Nat) (cx : Ctx) (dst k : Nat) (e : ErrCode) :
    s.changesOnly (readRegion cx.stereo dst k) (s.failRead c cx dst k e) :=
  changesOnly_of_write (State.failRead_mem ..) (freeBytes_length _ _).le

/-- R171: a read of a changed stream leaves free bytes in its destination, however it ends. -/
theorem staleRead_changesOnly (s : State) (c : Nat) (cx : Ctx) (dst k left : Nat) :
    s.changesOnly (readRegion cx.stereo dst k) (s.staleRead c cx dst k left) := by
  rcases staleRead_cases s c cx dst k left with h | h | h <;> rw [h]
  · exact scramble_changesOnly s (readRegion cx.stereo dst k)
  · exact failRead_changesOnly s c cx dst k .truncated
  · exact failRead_changesOnly s c cx dst k .malformed

/-- R134, R135, R171: DEC_READ writes its frames, or leaves free bytes in their place. -/
theorem execDecRead_changesOnly {s t : State} {c : Nat} (h : execDecRead c s = .next t) :
    s.changesOnly (decReadDest c s) t := by
  rcases execDecRead_next h with ⟨e, -, rfl⟩ | ⟨cx, k, hcheck, -, hread⟩
  · exact changesOnly_of_mem_eq rfl _
  have hdest : decReadDest c s = readRegion cx.stereo s.arg0.toNat k := by simp [decReadDest, hcheck]
  rw [hdest]
  rcases hread with ⟨-, rfl⟩ | ⟨-, e, -, rfl⟩ | ⟨-, fs, cx', hfs, rfl⟩
  · exact staleRead_changesOnly s c cx s.arg0.toNat k k
  · exact failRead_changesOnly s c cx s.arg0.toNat k e
  · have hlen : (pcmBytes cx.stereo fs).length ≤ 2 * channels cx.stereo * k := by
      rw [pcmBytes_length]
      exact Nat.mul_le_mul_left _ (readFrames_length_le hfs)
    exact changesOnly_of_write rfl hlen

/-- R44: no byte outside the destination region changes. -/
theorem exec_changesOnly {i : Instr} {s t : State} (hcmd : i.isCommand = true) (h : exec i s = .next t) :
    s.changesOnly (destRegion i s) t := by
  cases i with
  | nop => exact changesOnly_of_mem_eq (execNop_next h ▸ rfl) _
  | cvtF32 => exact changesOnly_of_checked (execCvtF32_next h) rfl (cvtBytes_length ..).le
  | hdrWrite => exact changesOnly_of_checked (execHdrWrite_next h) rfl (preambleOf_length ..).le
  | encFr => exact changesOnly_of_checked (execEncFr_next h) rfl (frBody_length ..).le
  | encAd => exact changesOnly_of_checked (execEncAd_next h) rfl le_rfl
  | decOpen => rcases execDecOpen_next h with ⟨e, -, rfl⟩ | ⟨p, -, rfl⟩ <;> exact changesOnly_of_mem_eq rfl _
  | decRead => exact execDecRead_changesOnly h
  | decReset => rcases execDecReset_next h with ⟨e, -, rfl⟩ | ⟨cx, -, -, rfl⟩ <;> exact changesOnly_of_mem_eq rfl _
  | decClose => rcases execDecClose_next h with ⟨e, -, rfl⟩ | ⟨cx, -, rfl⟩ <;> exact changesOnly_of_mem_eq rfl _
  | adSmall | adMedium | adFull | adReserved => simp [Instr.isCommand, encode] at hcmd

/-- Settles O59: each command in turn. -/
theorem commandsWriteOnlyTheirDestination : Obligations.CommandsWriteOnlyTheirDestination :=
  fun _ _ _ a hcmd h ha => exec_changesOnly hcmd h a ha

/-! ### No destination region meets an open stream (R54) -/

section Checks

variable {s : State}

/-- What passes HDR_WRITE's checks (R142). -/
theorem hdrCheck_ok (h : hdrCheck s = .ok ()) :
    s.valid (hdrRegion s) = true ∧ s.overlapsOpen (hdrRegion s) = false := by
  unfold hdrCheck at h
  split_ifs at h with h1 h2
  exact ⟨by simpa using h1, by simpa using h2⟩

/-- What passes CVT_F32's checks (R110). -/
theorem cvtCheck_ok (h : cvtCheck s = .ok ()) :
    s.valid (cvtSource s) = true ∧ s.valid (cvtDest s) = true ∧
      (s.arg1 ≠ s.arg0 → (cvtSource s).overlaps (cvtDest s) = false) ∧ s.overlapsOpen (cvtDest s) = false := by
  unfold cvtCheck at h
  split_ifs at h with h1 h2 h3 h4
  exact ⟨by simpa using h1, by simpa using h2, by simpa using h3, by simpa using h4⟩

/-- What passes ENC_FR's checks (R104). -/
theorem encFrCheck_ok {stereo : Bool} (h : encFrCheck stereo s = .ok ()) :
    s.arg2 ≠ 0 ∧ s.valid (encSource stereo s) = true ∧ encFrSize stereo s ≤ s.arg3.toNat ∧
      s.valid (encFrDest stereo s) = true ∧
      (s.arg1 ≠ s.arg0 → (encSource stereo s).overlaps (encFrDest stereo s) = false) ∧
      s.overlapsOpen (encFrDest stereo s) = false := by
  unfold encFrCheck at h
  split_ifs at h with h1 h2 h3 h4 h5 h6
  exact ⟨h1, by simpa using h2, by omega, by simpa using h4, by simpa using h5, by simpa using h6⟩

/-- What passes ENC_AD's checks (R119). -/
theorem encAdCheck_ok {stereo : Bool} (h : encAdCheck stereo s = .ok ()) :
    s.arg2 ≠ 0 ∧ s.valid (encSource stereo s) = true ∧ (encAdBody stereo s).length ≤ s.arg3.toNat ∧
      s.valid (encAdDest stereo s) = true ∧ (encSource stereo s).overlaps (encAdDest stereo s) = false ∧
      s.overlapsOpen (encAdDest stereo s) = false := by
  unfold encAdCheck at h
  split_ifs at h with h1 h2 h3 h4 h5 h6
  exact ⟨h1, by simpa using h2, by omega, by simpa using h4, by simpa using h5, by simpa using h6⟩

/-- R47: the empty region overlaps no stream. -/
theorem overlapsOpen_empty (s : State) : s.overlapsOpen ⟨0, 0⟩ = false := by
  simp [State.overlapsOpen, Region.overlaps]

theorem overlapsOpen_regionIf {checks : Except ErrCode Unit} {r : Region}
    (h : checks = .ok () → s.overlapsOpen r = false) : s.overlapsOpen (regionIf checks r) = false := by
  cases hc : checks with
  | error e => exact overlapsOpen_empty s
  | ok => exact h hc

theorem overlapsOpen_decReadDest (s : State) (c : Nat) : s.overlapsOpen (decReadDest c s) = false := by
  unfold decReadDest
  split
  · exact overlapsOpen_empty s
  · rename_i cx k hcheck
    obtain ⟨-, -, -, -, -, -, hopen⟩ := decReadCheck_ok hcheck
    exact hopen

/-- R54 (c): the destination region of a command meets no open stream. -/
theorem overlapsOpen_destRegion (s : State) (i : Instr) : s.overlapsOpen (destRegion i s) = false := by
  cases i with
  | cvtF32 =>
    refine overlapsOpen_regionIf fun h => ?_
    obtain ⟨-, -, -, hopen⟩ := cvtCheck_ok h
    exact hopen
  | hdrWrite =>
    refine overlapsOpen_regionIf fun h => ?_
    obtain ⟨-, hopen⟩ := hdrCheck_ok h
    exact hopen
  | encFr =>
    refine overlapsOpen_regionIf fun h => ?_
    obtain ⟨-, -, -, -, -, hopen⟩ := encFrCheck_ok h
    exact hopen
  | encAd =>
    refine overlapsOpen_regionIf fun h => ?_
    obtain ⟨-, -, -, -, -, hopen⟩ := encAdCheck_ok h
    exact hopen
  | decRead c => exact overlapsOpen_decReadDest s c
  | nop | decOpen | decReset | decClose | adSmall | adMedium | adFull | adReserved => exact overlapsOpen_empty s

end Checks

/-- Settles O58: a byte of an open stream is outside the destination region, where alone a command writes. -/
theorem commandsLeaveOpenStreamsAlone : Obligations.CommandsLeaveOpenStreamsAlone := by
  intro i s t j a cx hcmd h hcx hopen hlo hhi
  have hdisjoint : (destRegion i s).overlaps cx.region = false :=
    overlapsOpen_false (overlapsOpen_destRegion s i) hcx hopen
  have hout : (destRegion i s).misses a :=
    (Region.misses_iff _ a).mpr fun ha => not_overlaps hdisjoint a ha ⟨hlo, hhi⟩
  exact exec_changesOnly hcmd h a hout

/-! ### A host write in an open stream (R57, R171) -/

section HostWrite

variable {s : State} {addr : Word} {v : Byte} {cx : Ctx} {a : Nat}

/-- R171: a byte that keeps its value is no change. -/
theorem hostMemWrite_same (h : readByte s.mem addr.toNat = v) : hostMemWrite addr v s = .next s := if_pos h

/-- R171: a byte that changes, changes memory there and every context that holds it. -/
theorem hostMemWrite_changed (h : readByte s.mem addr.toNat ≠ v) :
    hostMemWrite addr v s =
      .next { s with mem := writeByte s.mem addr.toNat v, ctxs := s.ctxs.map (Ctx.noteChange addr.toNat) } := if_neg h

/-- R171: an open stream that holds the byte is stale. -/
theorem Ctx.noteChange_inside (hopen : cx.st ≠ .closed) (hlo : cx.base.toNat ≤ a)
    (hhi : a < cx.base.toNat + cx.len.toNat) : cx.noteChange a = { cx with stale := true } :=
  if_pos ⟨hopen, hlo, hhi⟩

/-- R171: any other context is as it was. -/
theorem Ctx.noteChange_outside
    (h : cx.st = .closed ∨ a < cx.base.toNat ∨ cx.base.toNat + cx.len.toNat ≤ a) : cx.noteChange a = cx := by
  refine if_neg fun ⟨hopen, hlo, hhi⟩ => ?_
  rcases h with hclosed | h
  · exact hopen hclosed
  · omega

end HostWrite

/-- Settles O45: the byte keeps its value or changes, and each context holds it or not. -/
theorem hostChangeOfAnOpenStream : Obligations.HostChangeOfAnOpenStream := by
  intro s addr v rest hr hi
  rw [step_of_action hr hi, perform]
  refine ⟨fun hsame => hostMemWrite_same hsame, fun hne => ⟨_, hostMemWrite_changed hne, rfl, ?byte, ?contexts⟩⟩
  case byte => exact fun a => readByte_writeByte s.mem addr.toNat a v
  case contexts =>
    intro j cx hcx
    have hmap : (s.ctxs.map (Ctx.noteChange addr.toNat))[j]? = some (cx.noteChange addr.toNat) := by
      rw [List.getElem?_map, hcx, Option.map_some]
    refine ⟨fun hopen hlo hhi => ?_, fun hout => ?_⟩
    · exact hmap.trans (congrArg some (Ctx.noteChange_inside hopen hlo hhi))
    · exact hmap.trans (congrArg some (Ctx.noteChange_outside hout))

/-! ### Every command has a next state (R148) -/

/-- R66, R68: a word decodes to a command only. -/
theorem isCommand_of_decodeWord {w : Word} {i : Instr} (h : decodeWord w = .ok i) : i.isCommand = true := by
  unfold decodeWord at h
  split_ifs at h
  unfold instrOfOpcode at h
  split at h <;> cases h <;> rfl

/-- R45, R131: the stream of every open context lies in memory. -/
def State.streamsInSpace (s : State) : Prop := ∀ cx ∈ s.ctxs, cx.st ≠ .closed → cx.inSpace = true

section Progress

variable {s : State}

/-- R131: the invariant holds every open stream in memory. -/
theorem Ctx.inSpace_of_ok {cx : Ctx} (h : cx.ok = true) (hopen : cx.st ≠ .closed) : cx.inSpace = true := by
  simp only [Ctx.ok, hopen, if_false, Ctx.streamOk, Bool.and_eq_true] at h
  obtain ⟨⟨⟨⟨⟨hspace, -⟩, -⟩, -⟩, -⟩, -⟩ := h
  exact hspace

theorem reading_of_inv (h : s.inv = true) : s.reading = none := by
  simp only [State.inv, Bool.and_eq_true, decide_eq_true_eq] at h
  obtain ⟨-, hreading⟩ := h
  exact hreading

theorem streamsInSpace_of_inv (h : s.inv = true) : s.streamsInSpace := by
  intro cx hcx hopen
  obtain ⟨c, hc⟩ := List.mem_iff_getElem?.mp hcx
  exact Ctx.inSpace_of_ok (ok_of_inv h hc) hopen

/-- R148: where the open streams lie in memory, every command has a next state. -/
theorem exec_progress {i : Instr} (hcmd : i.isCommand = true) (hs : s.streamsInSpace) : ∃ t, exec i s = .next t := by
  cases i with
  | nop => exact ⟨_, rfl⟩
  | cvtF32 => rw [exec, execCvtF32]; split <;> exact ⟨_, rfl⟩
  | hdrWrite => rw [exec, execHdrWrite]; split <;> exact ⟨_, rfl⟩
  | encFr => rw [exec, execEncFr]; split <;> exact ⟨_, rfl⟩
  | encAd => rw [exec, execEncAd]; split <;> exact ⟨_, rfl⟩
  | decOpen => rw [exec, execDecOpen]; split <;> exact ⟨_, rfl⟩
  | decRead c =>
    rw [exec, execDecRead]
    split
    · exact ⟨_, rfl⟩
    · rename_i cx k hcheck
      obtain ⟨hcx, hopen, -⟩ := decReadCheck_ok hcheck
      simp only [hs cx (List.mem_of_getElem? hcx) hopen, Bool.not_true, Bool.false_eq_true, if_false]
      split
      · exact ⟨_, rfl⟩
      · split <;> exact ⟨_, rfl⟩
  | decReset c =>
    rw [exec, execDecReset]
    split
    · exact ⟨_, rfl⟩
    · rename_i cx hcheck
      obtain ⟨hcx, hopen⟩ := openCtxCheck_ok hcheck
      simp only [hs cx (List.mem_of_getElem? hcx) hopen, Bool.not_true, Bool.false_eq_true, if_false]
      exact ⟨_, rfl⟩
  | decClose => rw [exec, execDecClose]; split <;> exact ⟨_, rfl⟩
  | adSmall | adMedium | adFull | adReserved => simp [Instr.isCommand, encode] at hcmd

end Progress

/-! ### Commands that another bus master disturbs (R52, R62, R174) -/

section Disturbed

variable {s : State} {r : Region}

/-- R171: a change in a stream marks its context at most. -/
theorem Ctx.noteChanges_cases (r : Region) (cx : Ctx) :
    cx.noteChanges r = cx ∨ cx.noteChanges r = { cx with stale := true } := by
  unfold Ctx.noteChanges
  split
  · exact .inr rfl
  · exact .inl rfl

/-- R174: another bus master moves no stream. -/
theorem streamsInSpace_disturb (h : s.streamsInSpace) (r : Region) : (s.disturb r).streamsInSpace := by
  intro cx hcx hopen
  obtain ⟨cx, hmem, rfl⟩ := List.mem_map.mp hcx
  rcases Ctx.noteChanges_cases r cx with hcx' | hcx' <;> rw [hcx'] at hopen ⊢ <;> exact h cx hmem hopen

/-- R52: the bytes free after a disturbed command are its destination region, or none. -/
theorem disturbedDest_cases (i : Instr) (r : Region) (s : State) :
    disturbedDest i r s = destRegion i s ∨ disturbedDest i r s = ⟨0, 0⟩ := by
  unfold disturbedDest
  split
  · exact .inl rfl
  · exact .inr rfl

/-- R25, R51: the destination region depends neither on CMD nor on what the host does next. -/
theorem destRegion_cmd_inbox (i : Instr) (s : State) (w : Word) (rest : List HostAction) :
    destRegion i { s with cmd := w, inbox := rest } = destRegion i s := by
  cases i <;> rfl

/-- R43: an address outside the bytes the bus master names is outside those of them that exist. -/
theorem clipRegion_misses {addr count : Word} {a : Nat} (h : a < addr.toNat ∨ addr.toNat + count.toNat ≤ a) :
    (clipRegion addr count).misses a :=
  h.imp_right (Nat.add_le_add_left (Nat.min_le_left _ _) addr.toNat).trans

/-- R52: what is free after a disturbed command: the bytes the bus master wrote, and those of `dest`. -/
theorem readByte_settle {t : State} {dest : Region} {a : Nat} (hr : r.misses a) (hd : dest.misses a) :
    readByte (t.settle dest r).mem a = readByte t.mem a := by
  calc readByte (t.settle dest r).mem a = readByte (t.scramble dest).mem a := scramble_changesOnly _ r a hr
    _ = readByte t.mem a := scramble_changesOnly t dest a hd

/-- R52, R174: a disturbed command has a next state, and changes the bus master's bytes and its destination region. -/
theorem runDisturbed_next {w : Word} {i : Instr} (hw : decodeWord w = .ok i) (hs : s.streamsInSpace) (r : Region) :
    ∃ t, runDisturbed w r s = .next t ∧
      ∀ a, r.misses a → (destRegion i (s.disturb r)).misses a → readByte t.mem a = readByte s.mem a := by
  have hcmd := isCommand_of_decodeWord hw
  obtain ⟨u, hu⟩ := exec_progress (s := { s.disturb r with cmd := w }) hcmd (streamsInSpace_disturb hs r)
  have hrun : runCommand w (s.disturb r) = .next u := (runCommand_of_ok hw _).trans hu
  refine ⟨u.settle (disturbedDest i r (s.disturb r)) r, by simp [runDisturbed, hw, hrun], fun a har had => ?_⟩
  have hafter : (disturbedDest i r (s.disturb r)).misses a := by
    rcases disturbedDest_cases i r (s.disturb r) with h | h <;> rw [h]
    · exact had
    · exact Region.misses_empty a
  have hdest : destRegion i { s.disturb r with cmd := w } = destRegion i (s.disturb r) :=
    destRegion_cmd_inbox i (s.disturb r) w s.inbox
  calc readByte (u.settle (disturbedDest i r (s.disturb r)) r).mem a = readByte u.mem a := readByte_settle har hafter
    _ = readByte (s.disturb r).mem a := exec_changesOnly hcmd hu a (by rwa [hdest])
    _ = readByte s.mem a := scramble_changesOnly s r a har

end Disturbed

/-- Settles O46: the disturbed command's next state and frame, and the two kinds of platform. -/
theorem disturbedCommands : Obligations.DisturbedCommands := by
  intro s w addr count i rest hinv hw
  have hr := reading_of_inv hinv
  refine ⟨fun hi => ?disturbed, fun hi => ?uncleaned⟩
  case disturbed =>
    obtain ⟨t, ht, hframe⟩ :=
      runDisturbed_next (s := { s with inbox := rest }) hw (streamsInSpace_of_inv hinv) (clipRegion addr count)
    have hdest : destRegion i (State.disturb { s with inbox := rest } (clipRegion addr count)) =
        destRegion i (s.disturb (clipRegion addr count)) :=
      destRegion_cmd_inbox i (s.disturb (clipRegion addr count)) s.cmd rest
    rw [hdest] at hframe
    exact ⟨t, (step_of_action hr hi).trans ht, fun a ha hd => hframe a (clipRegion_misses ha) hd⟩
  case uncleaned =>
    have hplain : step { s with inbox := .regWrite 4 0x04#8 w :: rest } = runCommand w { s with inbox := rest } :=
      step_cmdWrite hr rfl
    have hbus : step { s with inbox := .busWriteDuring w addr count :: rest } =
        runDisturbed w (clipRegion addr count) { s with inbox := rest } :=
      step_of_action (s := { s with inbox := .busWriteDuring w addr count :: rest }) hr rfl
    rw [step_of_action hr hi, hplain, hbus]
    rfl

end Sys2Proof.Machine

/-! PROOFS. The encoding: the fields of a command word and of a run header (R66, R88), decode against encode (R68, R69,
R92), the rows of the opcode table (R69), and a command line (R76). -/

namespace Sys2Proof

/-! ### The fields of a command word (R66) -/

/-- R9: the field of a masked word is the masked field. -/
theorem bitField_and (x y lo width : Nat) : bitField (x &&& y) lo width = bitField x lo width &&& bitField y lo width := by
  simp only [bitField, Nat.and_div_two_pow, Nat.and_mod_two_pow]

/-- R9: a mask of ones keeps a field. -/
theorem bitField_and_ones (v lo width : Nat) : bitField v lo width &&& (2 ^ width - 1) = bitField v lo width := by
  rw [Nat.and_two_pow_sub_one_eq_mod, bitField, Nat.mod_mod]

theorem opField_lt (w : Word) : opField w < 256 := Nat.mod_lt _ (by decide)

theorem ctxField_lt (w : Word) : ctxField w < 16 := Nat.mod_lt _ (by decide)

theorem stField_lt (w : Word) : stField w < 2 := Nat.mod_lt _ (by decide)

theorem lsField_lt (w : Word) : lsField w < 2 := Nat.mod_lt _ (by decide)

/-- R66: the fields make up the word. -/
theorem word_eq_iff_fields (w v : Word) :
    w = v ↔ opField w = opField v ∧ ctxField w = ctxField v ∧ stField w = stField v ∧ lsField w = lsField v ∧
      reservedField w = reservedField v := by
  refine ⟨fun h => by simp [h], fun ⟨hop, hctx, hst, hls, hres⟩ => BitVec.eq_of_toNat_eq ?_⟩
  simp only [opField, ctxField, stField, lsField, reservedField, bitField] at hop hctx hst hls hres
  omega

/-- R66: the fields of a word made from its fields. -/
theorem commandWord_fields {op ctx : Nat} (st ls : Bool) (hop : op < 256) (hctx : ctx < 16) :
    opField (commandWord op ctx st ls) = op ∧ ctxField (commandWord op ctx st ls) = ctx ∧
      stField (commandWord op ctx st ls) = st.toNat ∧ lsField (commandWord op ctx st ls) = ls.toNat ∧
      reservedField (commandWord op ctx st ls) = 0 := by
  have hst := st.toNat_lt
  have hls := ls.toNat_lt
  simp only [opField, ctxField, stField, lsField, reservedField, bitField, commandWord, BitVec.toNat_ofNat]
  omega

/-- R9: a field of one bit, as a flag. -/
theorem toNat_beq_one {b : Nat} (h : b < 2) : (b == 1).toNat = b := by
  interval_cases b <;> rfl

/-- R66: a word with no reserved bit is made from its fields. -/
theorem commandWord_of_fields {w : Word} (h : reservedField w = 0) :
    commandWord (opField w) (ctxField w) (stField w == 1) (lsField w == 1) = w := by
  obtain ⟨hop, hctx, hst, hls, hres⟩ :=
    commandWord_fields (stField w == 1) (lsField w == 1) (opField_lt w) (ctxField_lt w)
  rw [toNat_beq_one (stField_lt w)] at hst
  rw [toNat_beq_one (lsField_lt w)] at hls
  exact (word_eq_iff_fields _ _).mpr ⟨hop, hctx, hst, hls, hres.trans h.symm⟩

/-! ### Legal words (R69) -/

/-- R69: OP is an opcode, and a field that OP does not use is 0. -/
def FieldsLegal (op ctx st ls : Nat) : Prop :=
  op ∈ opcodes ∧ (op ∉ ctxOpcodes → ctx = 0) ∧ (op ∉ stOpcodes → st = 0) ∧ (op ∉ lsOpcodes → ls = 0)

/-- R69: the checks of the decoder, and the instruction they leave. -/
theorem decodeWord_ok_iff (w : Word) (i : Instr) :
    decodeWord w = .ok i ↔
      (reservedField w = 0 ∧ FieldsLegal (opField w) (ctxField w) (stField w) (lsField w)) ∧
        instrOfOpcode (opField w) (ctxField w) (stField w) (lsField w) = .ok i := by
  unfold decodeWord FieldsLegal
  split_ifs with hop hres hctx hst hls <;> simp <;> tauto

/-- R68: every opcode has its instruction. -/
theorem instrOfOpcode_of_mem {op : Nat} (h : op ∈ opcodes) (ctx st ls : Nat) :
    ∃ i, instrOfOpcode op ctx st ls = .ok i := by
  simp only [opcodes, List.mem_cons, List.not_mem_nil, or_false] at h
  rcases h with rfl | rfl | rfl | rfl | rfl | rfl | rfl | rfl | rfl <;> exact ⟨_, rfl⟩

/-- R69: the legal words. -/
theorem decodeWord_legal_iff (w : Word) :
    (∃ i, decodeWord w = .ok i) ↔
      reservedField w = 0 ∧ FieldsLegal (opField w) (ctxField w) (stField w) (lsField w) := by
  simp only [decodeWord_ok_iff, exists_and_left, and_iff_left_iff_imp]
  exact fun ⟨_, hop, _⟩ => instrOfOpcode_of_mem hop _ _ _

/-- R68: the opcodes fit their field. -/
theorem opcode_lt : ∀ op ∈ opcodes, op < 256 := by decide

/-- R66, R69: a word made from legal fields decodes to the instruction of its opcode. -/
theorem decodeWord_commandWord {op ctx : Nat} {st ls : Bool} {i : Instr}
    (hlegal : FieldsLegal op ctx st.toNat ls.toNat) (hctx : ctx < 16)
    (hi : instrOfOpcode op ctx st.toNat ls.toNat = .ok i) : decodeWord (commandWord op ctx st ls) = .ok i := by
  obtain ⟨hop, -⟩ := id hlegal
  obtain ⟨eop, ectx, est, els, eres⟩ := commandWord_fields st ls (opcode_lt op hop) hctx
  rw [decodeWord_ok_iff, eop, ectx, est, els]
  exact ⟨⟨eres, hlegal⟩, hi⟩

/-- R68: the encoding of the instruction that legal fields give is the word made from them: a field that the opcode does
not use is 0 in both. -/
theorem encode_of_instrOfOpcode {op ctx st ls : Nat} {i : Instr} (hlegal : FieldsLegal op ctx st ls)
    (hctx : ctx < 16) (hi : instrOfOpcode op ctx st ls = .ok i) :
    i.wf = true ∧ encode i = ⟨32, (commandWord op ctx (st == 1) (ls == 1)).toNat⟩ := by
  obtain ⟨hop, hc, hs, hl⟩ := hlegal
  unfold instrOfOpcode at hi
  split at hi <;> cases hi <;>
    simp_all [Instr.wf, ctxFits, encode, ctxOpcodes, stOpcodes, lsOpcodes]

/-! ### Run headers (R88, R92) -/

/-- R88: the fields of a run header made from its fields. -/
theorem runHeaderByte_fields {type extra : Nat} (ht : type < 4) (he : extra < 64) :
    headerTypeField (runHeaderByte type extra) = type ∧ headerExtraField (runHeaderByte type extra) = extra := by
  simp only [headerTypeField, headerExtraField, bitField, runHeaderByte, BitVec.toNat_ofNat]
  omega

theorem headerExtraField_lt (h : Byte) : headerExtraField h < 64 := Nat.mod_lt _ (by decide)

/-- R88: a run header is made from its fields. -/
theorem runHeaderByte_of_fields (h : Byte) : runHeaderByte (headerTypeField h) (headerExtraField h) = h := by
  refine BitVec.eq_of_toNat_eq ?_
  simp only [headerTypeField, headerExtraField, bitField, runHeaderByte, BitVec.toNat_ofNat]
  omega

theorem headerTypeField_lt (h : Byte) : headerTypeField h < 4 := Nat.mod_lt _ (by decide)

/-- R92: the instruction of a run header's type and its field `extra`. -/
def headerInstr (type extra : Nat) : Instr :=
  match type with
  | 0 => .adSmall extra
  | 1 => .adMedium extra
  | 2 => .adFull extra
  | _ => .adReserved extra

theorem decodeRunHeader_eq (h : Byte) :
    decodeRunHeader h = headerInstr (headerTypeField h) (headerExtraField h) := rfl

/-- R88, R92: a run header's instruction is well-formed, and encodes as the header made from its fields. -/
theorem encode_headerInstr {type extra : Nat} (ht : type < 4) (he : extra < 64) :
    (headerInstr type extra).wf = true ∧ encode (headerInstr type extra) = ⟨8, (runHeaderByte type extra).toNat⟩ := by
  have hextra : extraFits extra = true := decide_eq_true he
  interval_cases type <;> exact ⟨hextra, rfl⟩

/-! ### Decode and encode -/

/-- R65, R71: the host's question on a command word. -/
theorem decodeTableWord_word (w : Word) : decodeTableWord 32 w.toNat = (decodeWord w).toOption := by
  rw [decodeTableWord, if_pos w.isLt, decodeBits, BitVec.ofNat_toNat, BitVec.setWidth_eq]

/-- R88: the host's question on a run header. -/
theorem decodeTableWord_header (h : Byte) : decodeTableWord 8 h.toNat = some (decodeRunHeader h) := by
  rw [decodeTableWord, if_pos h.isLt, decodeBits, BitVec.ofNat_toNat, BitVec.setWidth_eq]

/-- R66, R69: a table row of 32 bits with legal fields decodes to the instruction of its opcode. -/
theorem decodeTableWord_commandWord {op ctx : Nat} {st ls : Bool} {i : Instr}
    (hlegal : FieldsLegal op ctx st.toNat ls.toNat) (hctx : ctx < 16)
    (hi : instrOfOpcode op ctx st.toNat ls.toNat = .ok i) :
    decodeTableWord 32 (commandWord op ctx st ls).toNat = some i := by
  rw [decodeTableWord_word, decodeWord_commandWord hlegal hctx hi]
  rfl

/-- R68, R69: a DEC_* opcode uses CTX and no flag. -/
theorem fieldsLegal_ctx {op : Nat} (h : op ∈ ctxOpcodes) (ctx : Nat) : FieldsLegal op ctx false.toNat false.toNat := by
  have hop : op ∈ opcodes := by
    revert op
    decide
  exact ⟨hop, fun hn => absurd h hn, fun _ => rfl, fun _ => rfl⟩

/-- R68, R69: an opcode that uses ST alone. -/
theorem fieldsLegal_st {op : Nat} (h : op ∈ stOpcodes) (st : Bool) : FieldsLegal op 0 st.toNat false.toNat := by
  have hop : op ∈ opcodes := by
    revert op
    decide
  exact ⟨hop, fun _ => rfl, fun hn => absurd h hn, fun _ => rfl⟩

/-- R68, R69: an opcode with no field. -/
theorem fieldsLegal_bare {op : Nat} (h : op ∈ opcodes) : FieldsLegal op 0 false.toNat false.toNat :=
  ⟨h, fun _ => rfl, fun _ => rfl, fun _ => rfl⟩

/-- R68, R69: HDR_WRITE uses both flags. -/
theorem fieldsLegal_hdrWrite (st ls : Bool) : FieldsLegal 0x02 0 st.toNat ls.toNat :=
  ⟨by decide, fun _ => rfl, fun hn => absurd (by decide) hn, fun hn => absurd (by decide) hn⟩

/-- R88, R92: the host's question on the run header of a type and a length. -/
theorem decodeTableWord_runHeaderByte {type extra : Nat} (ht : type < 4) (he : extra < 64) :
    decodeTableWord 8 (runHeaderByte type extra).toNat = some (headerInstr type extra) := by
  obtain ⟨htype, hextra⟩ := runHeaderByte_fields ht he
  rw [decodeTableWord_header, decodeRunHeader_eq, htype, hextra]

/-- Settles O1: each instruction's word or header is made from legal fields, and decodes to it. -/
theorem decodeOfEncodeIsInstr : Obligations.DecodeOfEncodeIsInstr := by
  intro i hwf
  cases i with
  | nop => exact decodeTableWord_commandWord (fieldsLegal_bare (by decide)) (by decide) rfl
  | cvtF32 => exact decodeTableWord_commandWord (fieldsLegal_bare (by decide)) (by decide) rfl
  | hdrWrite stereo lossy =>
    refine decodeTableWord_commandWord (fieldsLegal_hdrWrite stereo lossy) (by decide) ?_
    cases stereo <;> cases lossy <;> rfl
  | encFr stereo =>
    refine decodeTableWord_commandWord (fieldsLegal_st (by decide) stereo) (by decide) ?_
    cases stereo <;> rfl
  | encAd stereo =>
    refine decodeTableWord_commandWord (fieldsLegal_st (by decide) stereo) (by decide) ?_
    cases stereo <;> rfl
  | decOpen ctx | decRead ctx | decReset ctx | decClose ctx =>
    exact decodeTableWord_commandWord (fieldsLegal_ctx (by decide) ctx) (Laws.EncodingFits.ctx_lt hwf) rfl
  | adSmall extra | adMedium extra | adFull extra | adReserved extra =>
    exact decodeTableWord_runHeaderByte (by decide) (Laws.EncodingFits.extra_lt hwf)

/-- Settles O2: a legal word is made from its fields, and so is every run header. -/
theorem encodeOfDecodeIsWord : Obligations.EncodeOfDecodeIsWord := by
  refine ⟨fun w i h => ?word, fun h => ?header⟩
  case word =>
    obtain ⟨⟨hres, hlegal⟩, hi⟩ := (decodeWord_ok_iff w i).mp h
    have henc := encode_of_instrOfOpcode hlegal (ctxField_lt w) hi
    rwa [commandWord_of_fields hres] at henc
  case header =>
    have henc := encode_headerInstr (headerTypeField_lt h) (headerExtraField_lt h)
    rwa [runHeaderByte_of_fields] at henc

/-- Settles O4: each word is the encoding of the instruction it stands for. -/
theorem writtenWordsDecode : Obligations.WrittenWordsDecode :=
  ⟨decodeOfEncodeIsInstr .nop rfl, decodeOfEncodeIsInstr .cvtF32 rfl,
    decodeOfEncodeIsInstr (.hdrWrite true true) rfl, decodeOfEncodeIsInstr (.encFr true) rfl,
    decodeOfEncodeIsInstr (.encAd true) rfl, decodeOfEncodeIsInstr (.decClose 15) rfl,
    decodeOfEncodeIsInstr (.adSmall 63) rfl, decodeOfEncodeIsInstr (.adFull 2) rfl⟩

/-! ### The rows of the opcode table (R69) -/

/-- R69: the mask of an opcode's row: the bits of OP, the reserved bits, and the fields the opcode does not use. -/
def rowMask (op : Nat) : Word :=
  0xFFFFC000#32 +
    commandWord 0xFF (if op ∈ ctxOpcodes then 0 else 0xF) (decide (op ∉ stOpcodes)) (decide (op ∉ lsOpcodes))

/-- R69: the fields of a row's mask. -/
theorem rowMask_fields : ∀ op ∈ opcodes,
    opField (rowMask op) = 2 ^ 8 - 1 ∧ reservedField (rowMask op) = 2 ^ 18 - 1 ∧
      ctxField (rowMask op) = (if op ∈ ctxOpcodes then 0 else 2 ^ 4 - 1) ∧
      stField (rowMask op) = (if op ∈ stOpcodes then 0 else 2 ^ 1 - 1) ∧
      lsField (rowMask op) = (if op ∈ lsOpcodes then 0 else 2 ^ 1 - 1) := by
  decide

/-- R9: a field under a mask that is all ones there, or all zeros, is 0. -/
theorem bitField_and_unused (v lo width : Nat) (used : Prop) [Decidable used] :
    bitField v lo width &&& (if used then 0 else 2 ^ width - 1) = 0 ↔ (¬ used → bitField v lo width = 0) := by
  by_cases h : used
  · simp [h]
  · rw [if_neg h, bitField_and_ones]
    simp [h]

/-- R69: a word matches an opcode's row when it has that opcode, no reserved bit, and no field that it does not use. -/
theorem and_rowMask_iff {op : Nat} (h : op ∈ opcodes) (w : Word) :
    w &&& rowMask op = BitVec.ofNat 32 op ↔
      opField w = op ∧ reservedField w = 0 ∧ (op ∉ ctxOpcodes → ctxField w = 0) ∧
        (op ∉ stOpcodes → stField w = 0) ∧ (op ∉ lsOpcodes → lsField w = 0) := by
  obtain ⟨mop, mres, mctx, mst, mls⟩ := rowMask_fields op h
  obtain ⟨eop, ectx, est, els, eres⟩ := commandWord_fields false false (opcode_lt op h) (ctx := 0) (by decide)
  have hv : BitVec.ofNat 32 op = commandWord op 0 false false := rfl
  rw [hv, word_eq_iff_fields, eop, ectx, est, els, eres]
  simp only [opField, ctxField, stField, lsField, reservedField, BitVec.toNat_and, bitField_and] at *
  rw [mop, mres, mctx, mst, mls, bitField_and_ones, bitField_and_ones]
  simp only [Bool.toNat_false]
  rw [bitField_and_unused, bitField_and_unused, bitField_and_unused]
  tauto

/-- R69: a word is legal when it matches the row of an opcode. -/
theorem decodeWord_legal_iff_row (w : Word) :
    (∃ i, decodeWord w = .ok i) ↔ ∃ op ∈ opcodes, w &&& rowMask op = BitVec.ofNat 32 op := by
  rw [decodeWord_legal_iff]
  constructor
  · rintro ⟨hres, hop, hunused⟩
    exact ⟨opField w, hop, (and_rowMask_iff hop w).mpr ⟨rfl, hres, hunused⟩⟩
  · rintro ⟨op, hop, h⟩
    obtain ⟨rfl, hres, hunused⟩ := (and_rowMask_iff hop w).mp h
    exact ⟨hres, hop, hunused⟩

/-- R68: the mask and match of the nine rows of the opcode table. -/
theorem rows_of_table :
    opcodes.map (fun op => (rowMask op, BitVec.ofNat 32 op)) =
      [(0xFFFFFFFF#32, 0x00#32), (0xFFFFFFFF#32, 0x01#32), (0xFFFFCFFF#32, 0x02#32), (0xFFFFEFFF#32, 0x10#32),
       (0xFFFFEFFF#32, 0x11#32), (0xFFFFF0FF#32, 0x20#32), (0xFFFFF0FF#32, 0x21#32), (0xFFFFF0FF#32, 0x22#32),
       (0xFFFFF0FF#32, 0x23#32)] := by
  decide

/-- Settles O3: the nine rows are those of the opcodes. -/
theorem wordLegalExactlyWhenRowMatches : Obligations.WordLegalExactlyWhenRowMatches := by
  intro w
  have hrows : (∃ op ∈ opcodes, w &&& rowMask op = BitVec.ofNat 32 op) ↔
      ∃ row ∈ opcodes.map (fun op => (rowMask op, BitVec.ofNat 32 op)), w &&& row.1 = row.2 := by
    simp only [List.mem_map, exists_exists_and_eq_and]
  rw [decodeWord_legal_iff_row, hrows, rows_of_table]
  simp only [List.mem_cons, List.not_mem_nil, or_false, exists_eq_or_imp, exists_eq_left]

/-! ### Command lines (R76) -/

namespace Machine

/-- R66, R68: a well-formed command decodes from its word. -/
theorem decodeWord_encode {i : Instr} (hcmd : i.isCommand = true) (hwf : i.wf = true) :
    decodeWord (BitVec.ofNat 32 (encode i).bits) = .ok i := by
  have hbits : (encode i).nbits = 32 := by simpa [Instr.isCommand] using hcmd
  have hdecode := decodeOfEncodeIsInstr i hwf
  rw [hbits, decodeTableWord] at hdecode
  split at hdecode
  · change (decodeWord (BitVec.ofNat 32 (encode i).bits)).toOption = some i at hdecode
    cases h : decodeWord (BitVec.ofNat 32 (encode i).bits) with
    | error e => simp [h, Except.toOption] at hdecode
    | ok j => simpa [h, Except.toOption] using hdecode
  · cases hdecode

/-- A run goes on from the next state. -/
theorem run_succ {M : Host.Core} {s t : M.State} (h : M.step s = .next t) (k : Nat) : M.run (k + 1) s = M.run k t := by
  rw [Host.Core.run, h]

/-- A run of one step is the step. -/
theorem run_one (M : Host.Core) (s : M.State) : M.run 1 s = M.step s := by
  rw [Host.Core.run]
  cases M.step s <;> rfl

/-- R27: a run that begins with the host's write of an ARG register. -/
theorem run_argWrite {s : State} {off : Byte} {v : Word} {rest : List HostAction} (hr : s.reading = none)
    (hi : s.inbox = .regWrite 4 off v :: rest) (ha : off.toNat % 4 = 0 ∧ off.toNat ≠ cmdOffset) (k : Nat) :
    Sys2Proof.core.run (k + 1) s =
      Sys2Proof.core.run k (State.writeWindow { s with inbox := rest } off.toNat v) :=
  run_succ (step_regWrite hr hi ha.1 ha.2) k

/-- Settles O7: four writes of the ARG registers, and the CMD write that runs the command. -/
theorem commandLineRunsItsCommand : Obligations.CommandLineRunsItsCommand := by
  intro s i a b c d rest hcmd hwf hr hi
  have hline : s.inbox =
      .regWrite 4 0x0C#8 a :: .regWrite 4 0x10#8 b :: .regWrite 4 0x14#8 c :: .regWrite 4 0x18#8 d ::
        .regWrite 4 0x04#8 (BitVec.ofNat 32 (encode i).bits) :: rest := hi
  refine Eq.trans (run_argWrite (off := 0x0C#8) hr hline (by decide) 4) ?_
  refine Eq.trans (run_argWrite (off := 0x10#8) (by exact hr) (by rfl) (by decide) 3) ?_
  refine Eq.trans (run_argWrite (off := 0x14#8) (by exact hr) (by rfl) (by decide) 2) ?_
  refine Eq.trans (run_argWrite (off := 0x18#8) (by exact hr) (by rfl) (by decide) 1) ?_
  refine Eq.trans (run_one Sys2Proof.core _) ?_
  refine Eq.trans (step_cmdWrite (by exact hr) (by rfl)) ?_
  exact runCommand_of_ok (decodeWord_encode hcmd hwf) _

end Machine

end Sys2Proof

/-! PROOFS. The errors of the DEC_* commands found by their checks (R69, R131, R134, R138, R140). -/

namespace Sys2Proof.Machine

variable {s : State} {c : Nat} {e : ErrCode} {cx : Ctx}

/-! ### A failed check changes only STATUS (R151) -/

theorem exec_decOpen_of_error (h : decOpenCheck c s = .error e) : exec (.decOpen c) s = .next { s with err := e } := by
  rw [exec, execDecOpen, h]
  rfl

theorem exec_decRead_of_error (h : decReadCheck c s = .error e) : exec (.decRead c) s = .next { s with err := e } := by
  rw [exec, execDecRead, h]
  rfl

/-- R138, R140: DEC_RESET and DEC_CLOSE share their check. -/
theorem exec_openCtx_of_error {i : Instr} (hi : i = .decReset c ∨ i = .decClose c) (h : openCtxCheck c s = .error e) :
    exec i s = .next { s with err := e } := by
  rcases hi with rfl | rfl
  · rw [exec, execDecReset, h]
    rfl
  · rw [exec, execDecClose, h]
    rfl

/-! ### The checks on the context (R69) -/

/-- R69: there is no context at or above NUM_CTX. -/
theorem ctxs_eq_none (h : s.numCtx ≤ c) : s.ctxs[c]? = none := List.getElem?_eq_none h

theorem openCtxCheck_badCtx (h : s.numCtx ≤ c) : openCtxCheck c s = .error .badCtx := by
  rw [openCtxCheck, ctxs_eq_none h]

theorem openCtxCheck_ctxState (hcx : s.ctxs[c]? = some cx) (hst : cx.st = .closed) :
    openCtxCheck c s = .error .ctxState := by
  rw [openCtxCheck, hcx]
  exact if_pos hst

/-- Settles O51, from the check that the two commands share. -/
theorem decResetAndCloseTurnedAway : Obligations.DecResetAndCloseTurnedAway := fun _ _ _ hi =>
  ⟨fun h => exec_openCtx_of_error hi (openCtxCheck_badCtx h),
    fun _ hcx hst => exec_openCtx_of_error hi (openCtxCheck_ctxState hcx hst)⟩

/-! ### DEC_OPEN (R131) -/

/-- R12: a value of `n` bytes is less than 256^n. -/
theorem leNat_lt (bs : List Byte) : leNat bs < 256 ^ bs.length := by
  induction bs with
  | nil => simp [leNat]
  | cons b bs ih =>
    have := b.isLt
    rw [leNat, List.length_cons, Nat.pow_succ']
    omega

theorem readNat_lt (m : List Host.Cell) (a n : Nat) : readNat m a n < 256 ^ n := by
  simpa [readNat] using leNat_lt (readBytes m a n)

/-- R80: the frame count of a preamble is 0 when its 4 bytes are. -/
theorem readPreamble_frames_eq_zero (m : List Host.Cell) (a : Nat) :
    (readPreamble m a).frames = 0 ↔ readNat m a 4 = 0 := by
  have hlt := readNat_lt m a 4
  rw [readPreamble, ← BitVec.toNat_inj, BitVec.toNat_ofNat, Nat.mod_eq_of_lt (by simpa using hlt)]
  rfl

/-- R67, R80: C of a preamble. -/
theorem channels_decide (p : Prop) [Decidable p] : channels (decide p) = if p then 2 else 1 := by
  simp [channels]

theorem decOpenCheck_badCtx (h : s.numCtx ≤ c) : decOpenCheck c s = .error .badCtx := by
  rw [decOpenCheck, ctxs_eq_none h]

theorem decOpenCheck_ctxState (hcx : s.ctxs[c]? = some cx) (hst : cx.st ≠ .closed) :
    decOpenCheck c s = .error .ctxState := by
  rw [decOpenCheck, hcx]
  exact if_pos hst

/-- R131: the checks on the stream, once the context is a closed one. -/
theorem decOpenCheck_of_closed (hcx : s.ctxs[c]? = some cx) (hst : cx.st = .closed) :
    decOpenCheck c s =
      if !s.valid ⟨s.arg0.toNat, s.arg1.toNat⟩ then .error .region
      else if s.arg1.toNat < 10 then .error .truncated
      else if readNat s.mem s.arg0.toNat 4 = 0 then .error .unsupported
      else if readByte s.mem (s.arg0.toNat + 9) ≠ 0 ∧
          s.arg1.toNat < 10 + 2 * (if readByte s.mem (s.arg0.toNat + 8) ≠ 0 then 2 else 1) then .error .truncated
      else .ok (readPreamble s.mem s.arg0.toNat) := by
  rw [decOpenCheck, hcx]
  dsimp only
  rw [if_neg (not_not.mpr hst)]
  simp only [readPreamble_frames_eq_zero]
  simp only [readPreamble, channels_decide, decide_eq_true_eq, Config.preambleBytes]

/-- Settles O40: the checks in order. -/
theorem decOpenTurnedAway : Obligations.DecOpenTurnedAway := by
  rintro c s ch lossy rfl rfl
  refine ⟨fun h => exec_decOpen_of_error (decOpenCheck_badCtx h),
    fun cx hcx hst => exec_decOpen_of_error (decOpenCheck_ctxState hcx hst), fun cx hcx hst => ?stream⟩
  case stream =>
    have hcheck := decOpenCheck_of_closed hcx hst
    refine ⟨fun hv => ?region, fun hv hlen => ?short, fun hv hlen hf => ?empty, fun hv hlen hf hl hkey => ?noKey⟩
    all_goals apply exec_decOpen_of_error
    case region => rw [hcheck, hv]; rfl
    case short => rw [hcheck, hv, if_neg (by decide), if_pos hlen]
    case empty => rw [hcheck, hv, if_neg (by decide), if_neg (by omega), if_pos hf]
    case noKey =>
      rw [hcheck, hv, if_neg (by decide), if_neg (by omega), if_neg hf, if_pos ⟨of_decide_eq_true hl, hkey⟩]

/-! ### DEC_READ (R134) -/

theorem decReadCheck_badCtx (h : s.numCtx ≤ c) : decReadCheck c s = .error .badCtx := by
  rw [decReadCheck, ctxs_eq_none h]

theorem decReadCheck_ctxState (hcx : s.ctxs[c]? = some cx) (hst : cx.st = .closed) :
    decReadCheck c s = .error .ctxState := by
  rw [decReadCheck, hcx]
  exact if_pos hst

theorem decReadCheck_faulted (hcx : s.ctxs[c]? = some cx) (hst : cx.st = .faulted) :
    decReadCheck c s = .error .faulted := by
  rw [decReadCheck, hcx]
  dsimp only
  rw [hst]
  rfl

/-- R134: the checks on the destination, once the context is one that can be read. -/
theorem decReadCheck_of_open {ch k : Nat} (hcx : s.ctxs[c]? = some cx) (hc : cx.st ≠ .closed) (hf : cx.st ≠ .faulted)
    (hch : ch = if cx.stereo then 2 else 1) (hk : k = min s.arg2.toNat cx.remaining.toNat) :
    decReadCheck c s =
      if s.arg1.toNat < 2 * ch * s.arg2.toNat then .error .capacity
      else if !s.valid ⟨s.arg0.toNat, 2 * ch * k⟩ then .error .region
      else if s.overlapsOpen ⟨s.arg0.toNat, 2 * ch * k⟩ then .error .overlap
      else .ok (cx, k) := by
  rw [decReadCheck, hcx]
  dsimp only
  rw [if_neg hc, if_neg hf, hch, hk]
  rfl

/-- Settles O43: the checks in order. -/
theorem decReadTurnedAway : Obligations.DecReadTurnedAway := by
  refine fun c s => ⟨fun h => exec_decRead_of_error (decReadCheck_badCtx h), fun cx ch k hcx hch hk => ?context⟩
  case context =>
    refine ⟨fun hst => exec_decRead_of_error (decReadCheck_ctxState hcx hst),
      fun hst => exec_decRead_of_error (decReadCheck_faulted hcx hst), fun hc hf => ?destination⟩
    have hcheck := decReadCheck_of_open hcx hc hf hch hk
    refine ⟨fun hcap => ?capacity, fun hcap hv => ?region, fun hcap hv ho => ?overlap⟩
    all_goals apply exec_decRead_of_error
    case capacity => rw [hcheck, if_pos hcap]
    case region => rw [hcheck, if_neg (not_lt.mpr hcap), hv]; rfl
    case overlap => rw [hcheck, if_neg (not_lt.mpr hcap), hv, ho]; rfl

end Sys2Proof.Machine

/-! PROOFS. The values of FR residual bytes (R87, R95, R96, R99) and of Medium pairs (R91). -/

namespace Sys2Proof.Machine

/-! ### Medium pairs (R91) -/

/-- R91: the word of a pair has 24 bits. -/
theorem mediumWord_lt (a b : Int) : mediumWord a b < 256 ^ 3 := by
  unfold mediumWord
  omega

/-- R91: the low half of the word is the first delta, modulo 4096. -/
theorem mediumWord_mod (a b : Int) : mediumWord a b % 4096 = (a % 4096).toNat := by
  unfold mediumWord
  omega

/-- R91: the high half of the word is the second delta, modulo 4096. -/
theorem mediumWord_div (a b : Int) : mediumWord a b / 4096 = (b % 4096).toNat := by
  unfold mediumWord
  omega

/-- R10: `sext_12` undoes the reduction of a signed 12-bit value modulo 4096. -/
theorem sext12_eq {v : Nat} {a : Int} (hv : v % 4096 = (a % 4096).toNat) (hlo : -2048 ≤ a) (hhi : a ≤ 2047) :
    sext12 v = a := by
  rw [sext12, BitVec.toInt_eq_toNat_bmod, BitVec.toNat_ofNat, Int.bmod]
  omega

/-- Settles O30: the word of the pair is less than 2^24, and its halves are the deltas modulo 4096. -/
theorem mediumPairRoundTrip : Obligations.MediumPairRoundTrip := by
  intro a b ha ha' hb hb'
  have hword : leNat (leBytes 3 (mediumWord a b)) = mediumWord a b := by
    rw [leNat_leBytes, Nat.mod_eq_of_lt (mediumWord_lt a b)]
  rw [hword]
  refine ⟨leBytes_length _ _, mediumWord_mod a b, mediumWord_div a b, sext12_eq (mediumWord_mod a b) ha ha', ?_⟩
  exact sext12_eq (by rw [mediumWord_div]; omega) hb hb'

/-! ### FR arithmetic (R94) -/

theorem frStep_pos (l r : Int) : 0 < frStep l r := Nat.le_max_right _ _

/-- R94: the midpoint of two samples is the value of a sample. -/
theorem frMid_bounds (l r : Sample) : -32768 ≤ frMid l.toInt r.toInt ∧ frMid l.toInt r.toInt ≤ 32767 := by
  have hl := l.le_toInt
  have hl' := l.toInt_lt
  have hr := r.le_toInt
  have hr' := r.toInt_lt
  have hsign : Int.sign 2 = 1 := rfl
  rw [frMid, Int.tdiv_eq_ediv, hsign]
  split <;> omega

/-- R10: an integer of 16 bits is the value of its sample. -/
theorem wrap16_toInt {v : Int} (hlo : -32768 ≤ v) (hhi : v ≤ 32767) : (wrap16 v).toInt = v := by
  rw [wrap16, BitVec.toInt_ofInt, Int.bmod]
  omega

/-! ### FR residual bytes (R87, R95) -/

/-- R95: the clamped magnitude of a residual. -/
def frMagnitude (x l r : Int) : Nat := min ((x - frMid l r).natAbs / frStep l r) 127

theorem frMagnitude_le (x l r : Int) : frMagnitude x l r ≤ 127 := Nat.min_le_right _ _

/-- R99: the magnitude, in steps, does not go past the sample. -/
theorem frStep_mul_frMagnitude_le (x l r : Int) : frStep l r * frMagnitude x l r ≤ (x - frMid l r).natAbs :=
  calc frStep l r * frMagnitude x l r ≤ frStep l r * ((x - frMid l r).natAbs / frStep l r) :=
        Nat.mul_le_mul_left _ (Nat.min_le_left _ _)
    _ ≤ (x - frMid l r).natAbs := Nat.mul_div_le _ _

/-- R95: the residual byte the encoder makes. -/
theorem frQuant_toNat (x l r : Int) :
    (frQuant x l r).toNat = (if x < frMid l r then 128 else 0) + frMagnitude x l r := by
  have hle := frMagnitude_le x l r
  have hsign : x - frMid l r < 0 ↔ x < frMid l r := sub_neg
  have hbyte : frQuant x l r = BitVec.ofNat 8 ((if x - frMid l r < 0 then 128 else 0) + frMagnitude x l r) := rfl
  rw [hbyte, BitVec.toNat_ofNat, if_congr hsign rfl rfl]
  split <;> omega

/-- R87: the value of a residual byte, by its sign bit. -/
theorem residualValue_eq (b : Byte) :
    residualValue b = if b.toNat < 128 then (b.toNat : Int) else -((b.toNat : Int) - 128) := by
  have := b.isLt
  unfold residualValue
  split <;> split <;> omega

/-- R87, R95: the value of the residual byte the encoder makes. -/
theorem residualValue_frQuant (x l r : Int) :
    residualValue (frQuant x l r) = if x < frMid l r then -(frMagnitude x l r : Int) else frMagnitude x l r := by
  have hle := frMagnitude_le x l r
  rw [residualValue_eq, frQuant_toNat]
  split_ifs <;> push_cast <;> omega

/-- R96, R99: the reconstruction of the encoder's byte goes from the midpoint towards the sample, by the magnitude in
steps, and does not wrap. -/
theorem frRecon_frQuant_toInt (x l r : Sample) :
    (frRecon (frQuant x.toInt l.toInt r.toInt) l.toInt r.toInt).toInt =
      if x.toInt < frMid l.toInt r.toInt then
        frMid l.toInt r.toInt - (frStep l.toInt r.toInt * frMagnitude x.toInt l.toInt r.toInt : Nat)
      else frMid l.toInt r.toInt + (frStep l.toInt r.toInt * frMagnitude x.toInt l.toInt r.toInt : Nat) := by
  obtain ⟨hlo, hhi⟩ := frMid_bounds l r
  have hmag := frStep_mul_frMagnitude_le x.toInt l.toInt r.toInt
  have hx := x.le_toInt
  have hx' := x.toInt_lt
  rw [frRecon, residualValue_frQuant]
  split
  · rw [mul_neg, ← Nat.cast_mul, ← sub_eq_add_neg]
    exact wrap16_toInt (by omega) (by omega)
  · rw [← Nat.cast_mul]
    exact wrap16_toInt (by omega) (by omega)

/-- Settles O25: the value of a byte by its sign bit, and the encoder's byte as its sign and magnitude. -/
theorem frResidualByte : Obligations.FrResidualByte := by
  refine ⟨fun b l r => ?reconstruction, fun x l r => ?encoder⟩
  case reconstruction => rw [frRecon, residualValue_eq, wrap16]
  case encoder =>
    have hle := frMagnitude_le x.toInt l.toInt r.toInt
    have hmag := frStep_mul_frMagnitude_le x.toInt l.toInt r.toInt
    rw [frQuant_toNat, frRecon_frQuant_toInt]
    refine ⟨?sign, ?magnitude, fun h => ?above, fun h => ?below⟩
    case sign => split <;> omega
    case magnitude => rw [← frMagnitude]; split <;> omega
    case above => rw [if_neg (not_lt.mpr h)]; omega
    case below => split <;> omega

end Sys2Proof.Machine

/-! PROOFS. The body of ENC_AD: its chunks (R114-R116), its runs (R117), its size and its first header byte (R93, R118). -/

namespace Sys2Proof.Machine

/-! ### The chunks of a source (R111, R116) -/

/-- R114: a delta for each sample. -/
theorem adDeltas_length (stereo : Bool) (prev : Frame) (fs : List Frame) :
    (adDeltas stereo prev fs).length = channels stereo * fs.length := by
  induction fs generalizing prev with
  | nil => rfl
  | cons x rest ih =>
    rw [adDeltas, List.length_append, ih, List.length_map, List.length_range, List.length_cons]
    ring

/-- R116: 3 bytes for each pair of deltas. -/
theorem mediumBytes_length (n : Nat) (ds : List Int) (h : ds.length = 2 * n) : (mediumBytes ds).length = 3 * n := by
  induction n generalizing ds with
  | zero => rw [List.length_eq_zero_iff.mp h]; rfl
  | succ n ih =>
    match ds, h with
    | a :: b :: rest, h =>
      simp only [List.length_cons] at h
      rw [mediumBytes, List.length_append, leBytes_length, ih rest (by omega)]
      ring

/-- R89, R116: a payload has the bytes of its type, for each channel. -/
theorem adPayload_length (stereo : Bool) (t : AdType) {fs : List Frame} {ds : List Int} (hfs : fs.length = 8)
    (hds : ds.length = channels stereo * 8) : (adPayload stereo t fs ds).length = t.width * channels stereo := by
  cases t with
  | small => rw [adPayload, List.length_map, hds, AdType.width, Nat.mul_comm]
  | medium => rw [adPayload, mediumBytes_length (4 * channels stereo) ds (by omega), AdType.width]; ring
  | full => rw [adPayload, pcmBytes_length, hfs, AdType.width]; ring

theorem adChunkFrames_length (x : Nat → Frame) (k : Nat) : (adChunkFrames x k).length = 8 := by
  simp [adChunkFrames, Config.adChunk]

/-- R116: every chunk of the first pass has a payload of its type. -/
theorem adPass1_payload_length (stereo : Bool) (x : Nat → Frame) (count k : Nat) (acc : Frame) :
    ∀ ch ∈ adPass1 stereo x count k acc, ch.payload.length = ch.type.width * channels stereo := by
  induction count generalizing k acc with
  | zero => simp [adPass1]
  | succ count ih =>
    have hfs := adChunkFrames_length x k
    have hds : (adDeltas stereo acc (adChunkFrames x k)).length = channels stereo * 8 := by
      rw [adDeltas_length, hfs]
    exact List.forall_mem_cons.mpr ⟨adPayload_length stereo _ hfs hds, ih (k + 1) _⟩

/-- R111: the first pass makes the chunks asked for. -/
theorem adPass1_length (stereo : Bool) (x : Nat → Frame) (count k : Nat) (acc : Frame) :
    (adPass1 stereo x count k acc).length = count := by
  induction count generalizing k acc with
  | zero => rfl
  | succ count ih => rw [adPass1, List.length_cons, ih]

/-- R115: chunk 0 is Full. -/
theorem adPass1_first_full (stereo : Bool) (x : Nat → Frame) (count : Nat) (acc : Frame) :
    ∃ ch rest, adPass1 stereo x (count + 1) 0 acc = ch :: rest ∧ ch.type = .full := ⟨_, _, rfl, rfl⟩

/-! ### The runs of a list of chunks (R117) -/

/-- R117: the chunks of a run, each with its type. -/
def AdRun.chunks (r : AdRun) : List AdChunk := r.payloads.map fun p => ⟨r.type, p⟩

/-- R117: the runs hold the chunks, in order. -/
theorem adGroupFrom_chunks (t : AdType) (cur : List (List Byte)) (cs : List AdChunk) :
    (adGroupFrom t cur cs).flatMap AdRun.chunks = AdRun.chunks ⟨t, cur⟩ ++ cs := by
  induction cs generalizing t cur with
  | nil => simp [adGroupFrom]
  | cons ch rest ih =>
    rw [adGroupFrom]
    split
    · rename_i h
      obtain ⟨rfl, -⟩ := h
      simp [ih, AdRun.chunks]
    · simp [ih, AdRun.chunks]

theorem adGroup_chunks (cs : List AdChunk) : (adGroup cs).flatMap AdRun.chunks = cs := by
  cases cs with
  | nil => rfl
  | cons ch rest => exact adGroupFrom_chunks ch.type [ch.payload] rest

/-- R117: a run has 1 to 64 chunks. -/
theorem adGroupFrom_run_length {cur : List (List Byte)} (h1 : 1 ≤ cur.length) (h64 : cur.length ≤ 64) (t : AdType)
    (cs : List AdChunk) : ∀ r ∈ adGroupFrom t cur cs, 1 ≤ r.payloads.length ∧ r.payloads.length ≤ 64 := by
  induction cs generalizing t cur with
  | nil => simpa [adGroupFrom] using ⟨h1, h64⟩
  | cons ch rest ih =>
    rw [adGroupFrom]
    split
    · rename_i h
      obtain ⟨-, hlt⟩ := h
      rw [Config.adRunMax] at hlt
      exact ih (by simp) (by rw [List.length_append, List.length_singleton]; omega) t
    · exact List.forall_mem_cons.mpr ⟨⟨h1, h64⟩, ih le_rfl (by simp) ch.type⟩

theorem adGroup_run_length (cs : List AdChunk) :
    ∀ r ∈ adGroup cs, 1 ≤ r.payloads.length ∧ r.payloads.length ≤ 64 := by
  cases cs with
  | nil => simp [adGroup]
  | cons ch rest => exact adGroupFrom_run_length le_rfl (by simp) ch.type rest

/-- R117: the first run has the type it began with. -/
theorem adGroupFrom_first (t : AdType) (cur : List (List Byte)) (cs : List AdChunk) :
    ∃ ps rest, adGroupFrom t cur cs = ⟨t, ps⟩ :: rest := by
  induction cs generalizing cur with
  | nil => exact ⟨_, _, rfl⟩
  | cons ch cs ih =>
    rw [adGroupFrom]
    split
    · exact ih _
    · exact ⟨_, _, rfl⟩

/-- R117: there is a run for every 64 chunks. -/
theorem length_le_adGroup (cs : List AdChunk) : cs.length ≤ 64 * (adGroup cs).length := by
  have hsum : cs.length = ((adGroup cs).map fun r => r.chunks.length).sum := by
    rw [← List.length_flatMap, adGroup_chunks]
  have hle : ((adGroup cs).map fun r => r.chunks.length).sum ≤ ((adGroup cs).map fun r => r.chunks.length).length • 64 := by
    refine List.sum_le_card_nsmul _ _ fun n hn => ?_
    obtain ⟨r, hr, rfl⟩ := List.mem_map.mp hn
    obtain ⟨-, h64⟩ := adGroup_run_length cs r hr
    simpa [AdRun.chunks] using h64
  rw [List.length_map, smul_eq_mul] at hle
  omega

/-! ### The size of a body (R93) -/

/-- R88: a run has a header byte and its payloads. -/
theorem adRunBytes_length (r : AdRun) :
    (adRunBytes r).length = 1 + (r.chunks.map fun ch => ch.payload.length).sum := by
  simp [adRunBytes, AdRun.chunks, List.length_flatten, Nat.add_comm, Function.comp_def]

/-- R93: a body has a byte for each run, and the payloads of the chunks. -/
theorem flatMap_adRunBytes_length (rs : List AdRun) :
    (rs.flatMap adRunBytes).length =
      rs.length + ((rs.flatMap AdRun.chunks).map fun ch => ch.payload.length).sum := by
  induction rs with
  | nil => rfl
  | cons r rs ih =>
    rw [List.flatMap_cons, List.length_append, ih, adRunBytes_length, List.flatMap_cons, List.map_append,
      List.sum_append, List.length_cons]
    omega

/-- R159: a chunk counts for its own type. -/
theorem adCount_cons (t : AdType) (ch : AdChunk) (cs : List AdChunk) :
    adCount t (ch :: cs) = adCount t cs + if ch.type = t then 1 else 0 := by
  unfold adCount
  rw [List.filter_cons]
  split <;> simp_all

/-- R93: the bytes of the payloads, by the number of chunks of each type. -/
theorem sum_payload_length {c : Nat} {cs : List AdChunk} (h : ∀ ch ∈ cs, ch.payload.length = ch.type.width * c) :
    (cs.map fun ch => ch.payload.length).sum =
      c * (8 * adCount .small cs + 12 * adCount .medium cs + 16 * adCount .full cs) := by
  induction cs with
  | nil => simp [adCount]
  | cons ch cs ih =>
    obtain ⟨hch, hcs⟩ := List.forall_mem_cons.mp h
    rw [List.map_cons, List.sum_cons, ih hcs, hch]
    cases ht : ch.type <;> simp [adCount_cons, ht, AdType.width] <;> ring

/-! ### The first header byte (R118) -/

/-- R88: the header byte of a run. -/
theorem runHeaderByte_toNat {type extra : Nat} (ht : type < 4) (he : extra < 64) :
    (runHeaderByte type extra).toNat = 64 * type + extra := by
  rw [runHeaderByte, BitVec.toNat_ofNat]
  omega

/-- R118: the body of runs that begin with a Full chunk begins with a Full header. -/
theorem adGroup_first_header_of_full {ch : AdChunk} (h : ch.type = .full) (cs : List AdChunk) :
    ∃ b, ((adGroup (ch :: cs)).flatMap adRunBytes)[0]? = some b ∧ 0x80 ≤ b.toNat ∧ b.toNat ≤ 0xBF := by
  obtain ⟨ps, rest, hruns⟩ := adGroupFrom_first ch.type [ch.payload] cs
  have hgroup : adGroup (ch :: cs) = ⟨ch.type, ps⟩ :: rest := hruns
  have hlen : 1 ≤ ps.length ∧ ps.length ≤ 64 := adGroup_run_length (ch :: cs) ⟨ch.type, ps⟩ (by simp [hgroup])
  have hbyte : (runHeaderByte AdType.full.code (ps.length - 1)).toNat = 128 + (ps.length - 1) :=
    runHeaderByte_toNat (by decide) (by omega)
  refine ⟨runHeaderByte AdType.full.code (ps.length - 1), by rw [hgroup, h]; rfl, ?_⟩
  omega

/-- R113: ENC_AD has a chunk for every 8 frames. -/
theorem encAdChunks_length (stereo : Bool) (s : State) : (encAdChunks stereo s).length = s.arg2.toNat / 8 :=
  adPass1_length ..

/-- Settles O32: the size of the runs of the chunks, and the first chunk's type. -/
theorem adBodySizeAndFirstHeader : Obligations.AdBodySizeAndFirstHeader := by
  intro stereo s
  have hchunks := encAdChunks_length stereo s
  refine ⟨?size, hchunks, ?runs, fun r hr => ?longest, fun h0 => ?empty, fun h8 => ?first⟩
  case size =>
    rw [encAdBody, flatMap_adRunBytes_length, encAdRuns, adGroup_chunks]
    exact congrArg _ (sum_payload_length (adPass1_payload_length _ _ _ _ _))
  case runs => exact hchunks ▸ length_le_adGroup (encAdChunks stereo s)
  case longest =>
    obtain ⟨-, h64⟩ := adGroup_run_length (encAdChunks stereo s) r hr
    exact h64
  case empty => rw [encAdBody, encAdRuns, List.length_eq_zero_iff.mp (hchunks.trans h0)]; rfl
  case first =>
    obtain ⟨n, hn⟩ : ∃ n, adChunkCount s.arg2.toNat = n + 1 :=
      Nat.exists_eq_succ_of_ne_zero (by rw [adChunkCount, Config.adChunk]; omega)
    obtain ⟨ch, rest, hfirst, hfull⟩ :=
      adPass1_first_full stereo (adSource s.mem stereo s.arg0.toNat) n Frame.zero
    rw [encAdBody, encAdRuns, encAdChunks, hn, hfirst]
    exact adGroup_first_header_of_full hfull rest

end Sys2Proof.Machine

/-! PROOFS. The body of ENC_FR: lists of bytes held at an offset of a list, read back from memory (R12, R77), the layout of
an FR body (R81, R84), and the completion of ENC_FR (R104). -/

namespace Sys2Proof.Machine

/-! ### Lists held at an offset -/

/-- `ys` stands in `xs` from the index `i` on. -/
def HoldsAt {α : Type} (xs : List α) (i : Nat) (ys : List α) : Prop := ys <+: xs.drop i

section HoldsAt

variable {α : Type} {xs ys zs : List α} {i j : Nat}

theorem holdsAt_self (xs : List α) : HoldsAt xs 0 xs := List.prefix_rfl

theorem HoldsAt.trans (h : HoldsAt xs i ys) (h' : HoldsAt ys j zs) : HoldsAt xs (i + j) zs := by
  unfold HoldsAt at *
  rw [← List.drop_drop]
  exact h'.trans (h.drop j)

theorem HoldsAt.append_right (h : HoldsAt xs i ys) (zs : List α) : HoldsAt (xs ++ zs) i ys := by
  unfold HoldsAt at *
  rw [List.drop_append]
  exact h.trans (List.prefix_append _ _)

theorem HoldsAt.append_left (h : HoldsAt ys i zs) (xs : List α) : HoldsAt (xs ++ ys) (xs.length + i) zs := by
  unfold HoldsAt at *
  rwa [List.drop_length_add_append]

/-- In a list of blocks of one length, each block stands at a multiple of that length. -/
theorem holdsAt_flatMap_range {f : Nat → List α} {len : Nat} (hlen : ∀ k, (f k).length = len) {k n : Nat} (hk : k < n) :
    HoldsAt ((List.range n).flatMap f) (len * k) (f k) := by
  induction n with
  | zero => omega
  | succ n ih =>
    rw [List.range_succ, List.flatMap_append, List.flatMap_singleton]
    rcases Nat.lt_succ_iff_lt_or_eq.mp hk with hlt | rfl
    · exact (ih hlt).append_right _
    · have hblocks : ((List.range k).flatMap f).length = len * k := by
        simp [List.length_flatMap, hlen, Nat.mul_comm]
      simpa [hblocks] using (holdsAt_self (f k)).append_left ((List.range k).flatMap f)

theorem HoldsAt.lt_length (h : HoldsAt xs i ys) (hj : j < ys.length) : i + j < xs.length := by
  have hle := h.length_le
  rw [List.length_drop] at hle
  omega

theorem HoldsAt.getElem (h : HoldsAt xs i ys) (hj : j < ys.length) : xs[i + j]'(h.lt_length hj) = ys[j] := by
  have hget := List.IsPrefix.getElem h hj
  rw [hget, List.getElem_drop]

end HoldsAt

/-! ### Held bytes, read back from memory (R12, R77) -/

section ReadBack

variable {bs ys : List Byte} {i : Nat}

/-- R12, R53: a byte of a list held in the bytes just written. -/
theorem readByte_writeBytes_holdsAt (h : HoldsAt bs i ys) (m : List Host.Cell) (a : Nat) {j : Nat} (hj : j < ys.length) :
    readByte (writeBytes m a bs) (a + i + j) = ys[j] := by
  rw [Nat.add_assoc, readByte_writeBytes_inside bs m a (i + j) (h.lt_length hj), h.getElem hj]

theorem readBytes_writeBytes_holdsAt (h : HoldsAt bs i ys) (m : List Host.Cell) (a : Nat) :
    readBytes (writeBytes m a bs) (a + i) ys.length = ys := by
  refine List.ext_getElem (readBytes_length _ _ _) fun j hj hj' => ?_
  simp only [readBytes, List.getElem_map, List.getElem_range]
  exact readByte_writeBytes_holdsAt h m a hj'

/-- R77: a sample held in the bytes just written. -/
theorem readSample_writeBytes_holdsAt {v : Sample} (h : HoldsAt bs i (sampleBytes v)) (m : List Host.Cell) (a : Nat) :
    readSample (writeBytes m a bs) (a + i) = v := by
  have hbytes := readBytes_writeBytes_holdsAt h m a
  rw [sampleBytes_length] at hbytes
  rw [readSample, readNat, hbytes, leNat_sampleBytes, BitVec.ofNat_toNat, BitVec.setWidth_eq]

end ReadBack

/-! ### Frames (R8, R77) -/

/-- R77: the sample of a channel stands at its offset in a frame. -/
theorem frameBytes_holdsAt (f : Frame) {stereo : Bool} {ch : Nat} (h : ch < channels stereo) :
    HoldsAt (frameBytes stereo f) (2 * ch) (sampleBytes (f.get ch)) := by
  rw [frameBytes, Frame.samples, List.flatMap_map]
  exact holdsAt_flatMap_range (f := fun c => sampleBytes (f.get c)) (fun _ => sampleBytes_length _) h

/-- R8: the sample of a channel of a frame given by channel. -/
theorem Frame.build_get {stereo : Bool} {ch : Nat} (h : ch < channels stereo) (x : Nat → Sample) :
    (Frame.build stereo x).get ch = x ch := by
  cases stereo
  · rw [channels_false, Nat.lt_one_iff] at h
    rw [h]
    rfl
  · rw [channels_true] at h
    interval_cases ch <;> rfl

/-- R77: the sample of a channel of a frame in memory. -/
theorem readFrame_get {stereo : Bool} {ch : Nat} (h : ch < channels stereo) (m : List Host.Cell) (a : Nat) :
    (readFrame m stereo a).get ch = readSample m (a + 2 * ch) := Frame.build_get h _

/-! ### The layout of an FR body (R81, R84) -/

/-- R101: a sample of the padded source. -/
theorem frSource_get {stereo : Bool} {ch : Nat} (h : ch < channels stereo) (m : List Host.Cell) (src frames f : Nat) :
    (frSource m stereo src frames f).get ch =
      readSample m (src + 2 * (channels stereo * min f (frames - 1) + ch)) := by
  rw [frSource, readFrame_get h]
  congr 1
  ring

@[simp] theorem frResiduals_length (stereo : Bool) (x l r : Frame) :
    (frResiduals stereo x l r).length = channels stereo := by
  simp [frResiduals]

section FrBody

variable {stereo : Bool} {x : Nat → Frame} {n k : Nat}

/-- R81, R84: the residuals of interior frame `j` follow the key of their chunk and the interior frames before. -/
theorem frChunkBytes_residuals {j : Nat} (h1 : 1 ≤ j) (h3 : j ≤ 3) :
    HoldsAt (frChunkBytes stereo x k) (2 * channels stereo + channels stereo * (j - 1))
      (frResiduals stereo (x (4 * k + j)) (x (4 * k)) (x (4 * k + 4))) := by
  obtain ⟨j, rfl⟩ := Nat.exists_eq_add_of_le' h1
  have hinterior := holdsAt_flatMap_range (n := 3) (k := j)
    (f := fun j => frResiduals stereo (x (4 * k + (j + 1))) (x (4 * k)) (x (4 * k + 4)))
    (fun _ => frResiduals_length ..) (by omega)
  have hlist : frChunkBytes stereo x k = frameBytes stereo (x (4 * k)) ++ (List.range 3).flatMap
      fun j => frResiduals stereo (x (4 * k + (j + 1))) (x (4 * k)) (x (4 * k + 4)) := rfl
  rw [hlist]
  simpa using hinterior.append_left (frameBytes stereo (x (4 * k)))

/-- R81: a chunk of the body. -/
theorem frBody_chunk (hk : k < n) : HoldsAt (frBody stereo n x) (5 * channels stereo * k) (frChunkBytes stereo x k) :=
  (holdsAt_flatMap_range (frChunkBytes_length stereo x) hk).append_right _

/-- R81: a key: that of a chunk, or the trailing one. -/
theorem frBody_key (hk : k ≤ n) :
    HoldsAt (frBody stereo n x) (5 * channels stereo * k) (frameBytes stereo (x (4 * k))) := by
  rcases Nat.lt_or_eq_of_le hk with hlt | rfl
  · exact (frBody_chunk hlt).trans ((holdsAt_self _).append_right _)
  · have hchunks : ((List.range k).flatMap (frChunkBytes stereo x)).length = 5 * channels stereo * k := by
      simp [List.length_flatMap, Nat.mul_comm]
    rw [frBody]
    simpa [hchunks] using
      (holdsAt_self (frameBytes stereo (x (4 * k)))).append_left ((List.range k).flatMap (frChunkBytes stereo x))

end FrBody

/-! ### ENC_FR completes (R104) -/

/-- R86: n, as R104 writes it. -/
theorem frChunks_eq (frames : Nat) : frChunks frames = (frames - 1 + 3) / 4 := rfl

/-- R104: the checks of ENC_FR pass when each of its conditions holds. -/
theorem encFrCheck_passes {stereo : Bool} {s : State} (hf : s.arg2 ≠ 0) (hsrc : s.valid (encSource stereo s) = true)
    (hcap : encFrSize stereo s ≤ s.arg3.toNat) (hdst : s.valid (encFrDest stereo s) = true)
    (hover : s.arg1 = s.arg0 ∨ (encSource stereo s).overlaps (encFrDest stereo s) = false)
    (hopen : s.overlapsOpen (encFrDest stereo s) = false) : encFrCheck stereo s = .ok () := by
  have hover' : ¬ (s.arg1 ≠ s.arg0 ∧ (encSource stereo s).overlaps (encFrDest stereo s) = true) := by
    rintro ⟨hne, htrue⟩
    exact hover.elim hne fun hfalse => Bool.noConfusion (htrue.symm.trans hfalse)
  rw [encFrCheck, if_neg hf, hsrc, if_neg (not_lt.mpr hcap), hdst, if_neg hover', hopen]
  rfl

/-- R104: the state after an ENC_FR whose checks pass. -/
theorem exec_encFr_of_passes {stereo : Bool} {s : State} (h : encFrCheck stereo s = .ok ()) :
    exec (.encFr stereo) s = .next { s with
      err := .ok, res0 := BitVec.ofNat 32 (encFrSize stereo s), res1 := BitVec.ofNat 32 (frChunks s.arg2.toNat),
      mem := writeBytes s.mem s.arg1.toNat (encFrBody stereo s) } := by
  rw [exec, execEncFr, h]
  rfl

/-- Settles O26: the checks pass, and the body is read back at its offsets. -/
theorem encFrWritesTheBody : Obligations.EncFrWritesTheBody := by
  intro stereo s c n b x hc hn hb hx hf hsrc hcap hdst hover hopen
  obtain rfl : c = channels stereo := hc
  obtain rfl : n = frChunks s.arg2.toNat := hn
  obtain rfl : b = encFrSize stereo s := hb
  have hsource {f ch : Nat} (hch : ch < channels stereo) :
      (frSource s.mem stereo s.arg0.toNat s.arg2.toNat f).get ch = x f ch :=
    (frSource_get hch ..).trans (hx f ch).symm
  refine ⟨_, exec_encFr_of_passes (encFrCheck_passes hf hsrc hcap hdst hover hopen), rfl,
    fun k ch hk hch => ?key, fun k j ch hk h1 h3 hch => ?residual, fun a ha => ?frame⟩
  case key =>
    have hkey : HoldsAt (encFrBody stereo s) _ _ := (frBody_key hk).trans (frameBytes_holdsAt _ hch)
    rw [hsource hch] at hkey
    rw [Nat.add_assoc]
    exact readSample_writeBytes_holdsAt hkey s.mem s.arg1.toNat
  case residual =>
    have hres : HoldsAt (encFrBody stereo s) _ _ := (frBody_chunk hk).trans (frChunkBytes_residuals h1 h3)
    have hread := readByte_writeBytes_holdsAt hres s.mem s.arg1.toNat (j := ch) (by simpa using hch)
    simp only [frResiduals, List.getElem_map, List.getElem_range] at hread
    rw [hsource hch, hsource hch, hsource hch] at hread
    simpa only [Nat.add_assoc] using hread
  case frame => exact readByte_writeBytes_outside _ s.mem _ a (by rwa [encFrBody, frBody_length])

end Sys2Proof.Machine

/-! PROOFS. FR arithmetic (R94) and the error of a reconstructed sample (R98). -/

namespace Sys2Proof.Machine

/-- R94: the step of two samples is at most 516, the quotient of their largest distance. -/
theorem frStep_le (l r : Sample) : frStep l.toInt r.toInt ≤ 516 := by
  have hl := l.le_toInt
  have hl' := l.toInt_lt
  have hr := r.le_toInt
  have hr' := r.toInt_lt
  rw [frStep, Config.frQmax]
  omega

/-- R94: the midpoint is half the sum, rounded toward zero. -/
theorem frMid_natAbs (l r : Int) : (frMid l r).natAbs = (l + r).natAbs / 2 := Int.natAbs_tdiv _ _

/-- R94: the midpoint has the sign of the sum, or is 0. -/
theorem frMid_mul_sum_nonneg (l r : Int) : 0 ≤ frMid l r * (l + r) := by
  have hsign : Int.sign 2 = 1 := rfl
  rcases le_total 0 (l + r) with h | h
  · exact mul_nonneg (Int.tdiv_nonneg h (by decide)) h
  · have hmid : frMid l r ≤ 0 := by
      rw [frMid, Int.tdiv_eq_ediv, hsign]
      split <;> omega
    exact mul_nonneg_of_nonpos_of_nonpos hmid h

/-- Settles O23: the step and the midpoint are the quotients that R94 names. -/
theorem frStepAndMidpoint : Obligations.FrStepAndMidpoint := by
  intro l r
  obtain ⟨hlo, hhi⟩ := frMid_bounds l r
  have hmid := frMid_natAbs l.toInt r.toInt
  have hstep : frStep l.toInt r.toInt = max ((r.toInt - l.toInt).natAbs / 127) 1 := rfl
  refine ⟨frStep_pos _ _, frStep_le l r, fun h => ?quotient, fun h => ?one, hlo, hhi, ?half, ?halfAbove,
    frMid_mul_sum_nonneg _ _⟩
  case quotient => omega
  case one => omega
  case half => omega
  case halfAbove => omega

/-- R97, R98: the error of a reconstructed sample is what the magnitude, in steps, leaves of the residual. -/
theorem frRecon_frQuant_error (x l r : Sample) :
    ((frRecon (frQuant x.toInt l.toInt r.toInt) l.toInt r.toInt).toInt - x.toInt).natAbs =
      (x.toInt - frMid l.toInt r.toInt).natAbs - frStep l.toInt r.toInt * frMagnitude x.toInt l.toInt r.toInt := by
  have hmag := frStep_mul_frMagnitude_le x.toInt l.toInt r.toInt
  rw [frRecon_frQuant_toInt]
  split <;> omega

/-- R87: the magnitude of the encoder's byte is in its low seven bits. -/
theorem frQuant_mod (x l r : Int) : (frQuant x l r).toNat % 128 = frMagnitude x l r := by
  have hle := frMagnitude_le x l r
  rw [frQuant_toNat]
  split <;> omega

/-- R98: below 128 steps the magnitude is the quotient. -/
theorem frMagnitude_of_lt {x l r : Int} (h : (x - frMid l r).natAbs < 128 * frStep l r) :
    frMagnitude x l r = (x - frMid l r).natAbs / frStep l r :=
  min_eq_left (Nat.le_of_lt_succ ((Nat.div_lt_iff_lt_mul (frStep_pos l r)).mpr h))

/-- R98: from 128 steps on the magnitude is clamped. -/
theorem frMagnitude_of_le {x l r : Int} (h : 128 * frStep l r ≤ (x - frMid l r).natAbs) : frMagnitude x l r = 127 :=
  min_eq_right ((Nat.le_succ 127).trans ((Nat.le_div_iff_mul_le (frStep_pos l r)).mpr h))

/-- Settles O24: the error, with the quotient or the clamped magnitude put in. -/
theorem frErrorBound : Obligations.FrErrorBound := by
  intro x l r
  have hpos := frStep_pos l.toInt r.toInt
  rw [frQuant_mod, frRecon_frQuant_error]
  refine ⟨fun h => ?unclamped, fun h => ?clamped⟩
  case unclamped =>
    rw [frMagnitude_of_lt h, ← Nat.mod_eq_sub_mul_div]
    exact ⟨rfl, rfl, Nat.mod_lt _ hpos⟩
  case clamped =>
    rw [frMagnitude_of_le h]
    exact ⟨rfl, by omega, by omega⟩

end Sys2Proof.Machine

/-! PROOFS. CVT_F32: the rounding of binary32 and the value of a conversion (R108, R109), its completion
(R110). -/

namespace Sys2Proof.Machine

/-! ### Rounding to nearest, ties to even (R108) -/

/-- Settles O22: by the quotient and the remainder of `n` by `2 ^ k`. -/
theorem roundingIsNearestEven : Obligations.RoundingIsNearestEven := by
  intro n k
  have hdiv := Nat.div_add_mod' n (2 ^ k)
  have hmod := Nat.mod_lt n (Nat.two_pow_pos k)
  have hup := Nat.add_one_mul (n / 2 ^ k) (2 ^ k)
  unfold roundNearestEven
  dsimp only
  split <;> exact ⟨by omega, by omega, fun htie => by omega⟩

/-- R108: `n` has `excessBits n` bits beyond 24. -/
theorem excessBits_spec (n : Nat) :
    (n < 2 ^ 24 ∧ excessBits n = 0) ∨ (2 ^ (excessBits n + 23) ≤ n ∧ n < 2 ^ (excessBits n + 24)) := by
  rcases Nat.lt_or_ge n (2 ^ 24) with h | h
  · left
    have hlog : Nat.log2 n < 24 := by
      rcases Nat.eq_zero_or_pos n with rfl | hpos
      · decide
      · exact (Nat.log2_lt hpos.ne').mpr h
    exact ⟨h, by unfold excessBits; omega⟩
  · right
    have hne : n ≠ 0 := by omega
    have hlog : 24 ≤ Nat.log2 n := (Nat.le_log2 hne).mpr h
    have hlow : excessBits n + 23 = Nat.log2 n := by unfold excessBits; omega
    have hhigh : excessBits n + 24 = Nat.log2 n + 1 := by omega
    rw [hlow, hhigh]
    exact ⟨Nat.log2_self_le hne, Nat.lt_log2_self⟩

/-- R108: `n` rounded to 24 significant bits. -/
def round24 (n : Nat) : Nat := roundNearestEven n (excessBits n) * 2 ^ excessBits n

/-- R108: rounding to 24 significant bits moves a number by at most its 2^24th part. -/
theorem round24_close (n : Nat) :
    2 ^ 24 * round24 n ≤ (2 ^ 24 + 1) * n ∧ (2 ^ 24 - 1) * n ≤ 2 ^ 24 * round24 n := by
  obtain ⟨habove, hbelow, -⟩ := roundingIsNearestEven n (excessBits n)
  rw [← round24] at habove hbelow
  rcases excessBits_spec n with ⟨-, h0⟩ | ⟨hlow, -⟩
  · rw [h0] at habove hbelow
    omega
  · rw [pow_add] at hlow
    omega

/-! ### The value of a binary32 (R78, R108) -/

/-- R78: sign, exponent and fraction make up the word. -/
theorem f32_fields (u : Word) : u.toNat = 2 ^ 31 * f32Sign u + 2 ^ 23 * f32Exp u + f32Frac u := by
  unfold f32Sign f32Exp f32Frac
  omega

theorem f32Sign_le (u : Word) : f32Sign u ≤ 1 := by
  have := u.isLt
  unfold f32Sign
  omega

theorem f32Exp_le (u : Word) : f32Exp u ≤ 255 := Nat.le_of_lt_succ (Nat.mod_lt _ (by decide))

theorem f32Frac_lt (u : Word) : f32Frac u < 2 ^ 23 := Nat.mod_lt _ (by decide)

/-- R78, R108: the magnitude of a finite `u`, times 2^150. -/
def f32Magnitude (u : Word) : Nat := f32Sig u * 2 ^ f32Scale u

/-- R108: the magnitude of the product, truncated toward zero. -/
def cvtTrunc (u : Word) : Nat := cvtProduct u / 2 ^ 150

theorem cvtProduct_eq (u : Word) : cvtProduct u = round24 (f32Sig u * 32766) * 2 ^ f32Scale u := by
  rw [round24, mul_assoc, ← pow_add]
  rfl

/-- R108: the product is 32766 times the magnitude, to 24 significant bits. -/
theorem cvtProduct_close (u : Word) :
    2 ^ 24 * cvtProduct u ≤ (2 ^ 24 + 1) * 32766 * f32Magnitude u ∧
      (2 ^ 24 - 1) * 32766 * f32Magnitude u ≤ 2 ^ 24 * cvtProduct u := by
  obtain ⟨habove, hbelow⟩ := round24_close (f32Sig u * 32766)
  have habove' := Nat.mul_le_mul_right (2 ^ f32Scale u) habove
  have hbelow' := Nat.mul_le_mul_right (2 ^ f32Scale u) hbelow
  rw [cvtProduct_eq, f32Magnitude]
  constructor <;> linarith

/-- R109: a magnitude of at most 1 gives at most 32766. -/
theorem cvtTrunc_le {u : Word} (h : f32Magnitude u ≤ 2 ^ 150) : cvtTrunc u ≤ 32766 := by
  obtain ⟨habove, -⟩ := cvtProduct_close u
  unfold cvtTrunc
  omega

/-- R109: a magnitude of at least 2 saturates. -/
theorem le_cvtTrunc {u : Word} (h : 2 ^ 151 ≤ f32Magnitude u) : 32768 ≤ cvtTrunc u := by
  obtain ⟨-, hbelow⟩ := cvtProduct_close u
  unfold cvtTrunc
  omega

/-- R109: a magnitude below the normal ones gives 0. -/
theorem cvtTrunc_eq_zero {u : Word} (h : f32Magnitude u ≤ 2 ^ 24) : cvtTrunc u = 0 := by
  obtain ⟨habove, -⟩ := cvtProduct_close u
  unfold cvtTrunc
  omega

/-! ### The magnitude by the exponent field (R78) -/

section Magnitude

variable {u : Word}

/-- R78: exponent field 0: a zero or a subnormal. -/
theorem f32Magnitude_subnormal (h : f32Exp u = 0) : f32Magnitude u ≤ 2 ^ 24 := by
  have hfrac := f32Frac_lt u
  have htwo : 2 ^ max 0 1 = 2 := rfl
  rw [f32Magnitude, f32Sig, f32Scale, if_pos h, h, htwo]
  omega

theorem f32Sig_bounds (h : f32Exp u ≠ 0) : 2 ^ 23 ≤ f32Sig u ∧ f32Sig u < 2 ^ 24 := by
  have hfrac := f32Frac_lt u
  rw [f32Sig, if_neg h]
  omega

/-- R78: an exponent field of at least 128 is a magnitude of at least 2. -/
theorem le_f32Magnitude (h : 128 ≤ f32Exp u) : 2 ^ 151 ≤ f32Magnitude u := by
  obtain ⟨hsig, -⟩ := f32Sig_bounds (u := u) (by omega)
  have hscale : 2 ^ 128 ≤ 2 ^ f32Scale u := Nat.pow_le_pow_right (by decide) (h.trans (Nat.le_max_left _ _))
  calc 2 ^ 151 = 2 ^ 23 * 2 ^ 128 := by norm_num
    _ ≤ f32Magnitude u := Nat.mul_le_mul hsig hscale

/-- R78: the words up to that of 1.0, sign aside, are the magnitudes of at most 1. -/
theorem f32Magnitude_le (h : 2 ^ 23 * f32Exp u + f32Frac u ≤ 0x3F800000) : f32Magnitude u ≤ 2 ^ 150 := by
  rcases Nat.lt_or_ge (f32Exp u) 127 with hexp | hexp
  · have hscale : 2 ^ f32Scale u ≤ 2 ^ 126 := Nat.pow_le_pow_right (by decide) (max_le (by omega) (by omega))
    have hfrac := f32Frac_lt u
    have hsig : f32Sig u ≤ 2 ^ 24 := by unfold f32Sig; split <;> omega
    calc f32Magnitude u ≤ 2 ^ 24 * 2 ^ 126 := Nat.mul_le_mul hsig hscale
      _ = 2 ^ 150 := by norm_num
  · have hexp' : f32Exp u = 127 := by omega
    have hfrac : f32Frac u = 0 := by omega
    rw [f32Magnitude, f32Sig, f32Scale, hexp', hfrac]
    decide

end Magnitude

/-! ### The conversion (R108) -/

section Conversion

variable {u : Word}

/-- R108: the integer of a conversion is that of its sample. -/
theorem f32ToI16_toInt (u : Word) : (f32ToI16 u).toInt = f32ToInt u := by
  refine wrap16_toInt ?_ ?_ <;>
  · unfold f32ToInt cvtInfinite cvtFinite
    dsimp only
    split_ifs <;> omega

/-- R108: a NaN gives 0. -/
theorem f32ToI16_nan (hexp : f32Exp u = 255) (hfrac : f32Frac u ≠ 0) : f32ToI16 u = 0 := by
  rw [f32ToI16, f32ToInt, if_pos hexp, if_pos hfrac]
  rfl

/-- R108: an infinity saturates. -/
theorem f32ToI16_infinite (hexp : f32Exp u = 255) (hfrac : f32Frac u = 0) : (f32ToI16 u).toInt = cvtInfinite u := by
  rw [f32ToI16_toInt, f32ToInt, if_pos hexp, if_neg (not_not.mpr hfrac)]

/-- R108: a finite value, its sign apart, gives its truncated product, saturated; a product that is an infinity is one
that saturates. -/
theorem f32ToI16_finite (hexp : f32Exp u ≠ 255) :
    (f32ToI16 u).toInt = if f32Sign u = 1 then max (-(cvtTrunc u : Int)) (-32768) else min (cvtTrunc u : Int) 32767 := by
  have hfinite :
      cvtFinite u = min (max (if f32Sign u = 1 then -(cvtTrunc u : Int) else cvtTrunc u) (-32768)) 32767 := rfl
  rw [f32ToI16_toInt, f32ToInt, if_neg hexp]
  split
  case isTrue hover =>
    have hlarge : 32768 ≤ cvtTrunc u := by
      have := of_decide_eq_true hover
      unfold cvtTrunc
      omega
    unfold cvtInfinite
    split <;> omega
  case isFalse =>
    rw [hfinite]
    split <;> omega

/-- R108: a zero or a subnormal gives 0. -/
theorem f32ToI16_subnormal (h : f32Exp u = 0) : f32ToI16 u = 0 := by
  refine BitVec.eq_of_toInt_eq ?_
  rw [f32ToI16_finite (by omega), cvtTrunc_eq_zero (f32Magnitude_subnormal h)]
  split <;> rfl

/-- R108: a finite value of magnitude 2 or more saturates, as the infinities do. -/
theorem f32ToI16_saturates (hexp : 128 ≤ f32Exp u) (h : f32Exp u = 255 → f32Frac u = 0) :
    (f32ToI16 u).toInt = cvtInfinite u := by
  rcases eq_or_ne (f32Exp u) 255 with hinf | hfin
  · exact f32ToI16_infinite hinf (h hinf)
  · have hlarge := le_cvtTrunc (le_f32Magnitude hexp)
    rw [f32ToI16_finite hfin, cvtInfinite]
    split <;> omega

/-- R109: a value in [-1, 1] gives a sample of at most 32766, with the sign of the value. -/
theorem f32ToI16_unit (h : 2 ^ 23 * f32Exp u + f32Frac u ≤ 0x3F800000) :
    ∃ t : Nat, t ≤ 32766 ∧ (f32ToI16 u).toInt = if f32Sign u = 1 then -(t : Int) else t := by
  have ht := cvtTrunc_le (f32Magnitude_le h)
  refine ⟨cvtTrunc u, ht, ?_⟩
  rw [f32ToI16_finite (by omega)]
  split <;> omega

end Conversion

/-- R108, R109: the results by the range of the word. -/
theorem f32ToI16_by_range (u : Word) :
    (0x40000000 ≤ u.toNat → u.toNat ≤ 0x7F800000 → (f32ToI16 u).toInt = 32767) ∧
    (0xC0000000 ≤ u.toNat → u.toNat ≤ 0xFF800000 → (f32ToI16 u).toInt = -32768) ∧
    (u.toNat ≤ 0x3F800000 → 0 ≤ (f32ToI16 u).toInt ∧ (f32ToI16 u).toInt ≤ 32766) ∧
    (0x80000000 ≤ u.toNat → u.toNat ≤ 0xBF800000 → -32766 ≤ (f32ToI16 u).toInt ∧ (f32ToI16 u).toInt ≤ 0) := by
  have hfields := f32_fields u
  have hsign := f32Sign_le u
  have hexp := f32Exp_le u
  have hfrac := f32Frac_lt u
  refine ⟨fun hlo hhi => ?largePositive, fun hlo hhi => ?largeNegative, fun hhi => ?unitPositive,
    fun hlo hhi => ?unitNegative⟩
  case largePositive =>
    rw [f32ToI16_saturates (by omega) (by omega), cvtInfinite, if_neg (by omega)]
  case largeNegative =>
    rw [f32ToI16_saturates (by omega) (by omega), cvtInfinite, if_pos (by omega)]
  case unitPositive =>
    obtain ⟨t, ht, hvalue⟩ := f32ToI16_unit (u := u) (by omega)
    rw [hvalue, if_neg (by omega)]
    omega
  case unitNegative =>
    obtain ⟨t, ht, hvalue⟩ := f32ToI16_unit (u := u) (by omega)
    rw [hvalue, if_pos (by omega)]
    omega

/-- Settles O21: the rounded product of a finite value, and the special values by the fields of the word. -/
theorem cvtSpecialValues : Obligations.CvtSpecialValues := by
  refine ⟨fun u sig scale p hexp hsig hscale hp => ?value, by decide, by decide, by decide, fun u => ?special⟩
  case value =>
    obtain rfl : sig = f32Sig u := hsig
    obtain rfl : scale = f32Scale u := hscale
    obtain ⟨habove, hbelow, htie⟩ := roundingIsNearestEven p (excessBits p)
    have htrunc : roundNearestEven p (excessBits p) * 2 ^ excessBits p * 2 ^ f32Scale u / 2 ^ 150 = cvtTrunc u := by
      rw [cvtTrunc, cvtProduct_eq, round24, hp]
    refine ⟨roundNearestEven p (excessBits p), excessBits p, excessBits_spec p, habove, hbelow, htie,
      fun hpos => ?positive, fun hneg => ?negative⟩
    case positive =>
      have hsign : f32Sign u ≠ 1 := by unfold f32Sign; omega
      rw [htrunc, f32ToI16_finite hexp, if_neg hsign]
    case negative =>
      have hlt := u.isLt
      have hsign : f32Sign u = 1 := by unfold f32Sign; omega
      rw [htrunc, f32ToI16_finite hexp, if_pos hsign]
  case special =>
    obtain ⟨hlargePos, hlargeNeg, hunitPos, hunitNeg⟩ := f32ToI16_by_range u
    refine ⟨hlargePos, hlargeNeg, f32ToI16_nan, ?infinity, ?negInfinity, f32ToI16_subnormal, hunitPos, hunitNeg⟩
    case infinity =>
      rintro rfl
      exact hlargePos (by decide) (by decide)
    case negInfinity =>
      rintro rfl
      exact hlargeNeg (by decide) (by decide)

/-! ### CVT_F32 completes (R110) -/

/-- R77, R110: sample `i` of the bytes that CVT_F32 writes. -/
theorem cvtBytes_sample (m : List Host.Cell) (src : Nat) {count i : Nat} (h : i < count) :
    HoldsAt (cvtBytes m src count) (2 * i) (sampleBytes (f32ToI16 (readF32 m src i))) :=
  holdsAt_flatMap_range (f := fun i => sampleBytes (f32ToI16 (readF32 m src i))) (fun _ => sampleBytes_length _) h

/-- R53, R110: the two operands stand at one address, or apart. -/
theorem inPlace_or_apart_iff {s : State} {r q : Region} :
    (s.arg1 = s.arg0 ∨ r.overlaps q = false) ↔ ¬ (s.arg1 ≠ s.arg0 ∧ r.overlaps q = true) := by
  rw [not_and_or, not_not, Bool.not_eq_true]

/-- R110: the checks of CVT_F32 pass when each of its conditions holds. -/
theorem cvtCheck_passes {s : State} (hsrc : s.valid (cvtSource s) = true) (hdst : s.valid (cvtDest s) = true)
    (hover : s.arg1 = s.arg0 ∨ (cvtSource s).overlaps (cvtDest s) = false)
    (hopen : s.overlapsOpen (cvtDest s) = false) : cvtCheck s = .ok () := by
  rw [cvtCheck, hsrc, hdst, if_neg (inPlace_or_apart_iff.mp hover), hopen]
  rfl

/-- R110: the state after a CVT_F32 whose checks pass. -/
theorem exec_cvtF32_of_passes {s : State} (h : cvtCheck s = .ok ()) :
    exec .cvtF32 s = .next { s with
      err := .ok, res0 := s.arg2, mem := writeBytes s.mem s.arg1.toNat (cvtBytes s.mem s.arg0.toNat s.arg2.toNat) } := by
  rw [exec, execCvtF32, h]
  simp [State.setRes0, State.store, State.finish]

/-- Settles O19: the checks pass, and each sample is read back from the bytes written. -/
theorem cvtConvertsEverySample : Obligations.CvtConvertsEverySample := by
  intro s hsrc hdst hover hopen
  refine ⟨_, exec_cvtF32_of_passes (cvtCheck_passes hsrc hdst hover hopen), rfl, fun i hi => ?sample, fun a ha => ?frame⟩
  case sample => exact readSample_writeBytes_holdsAt (cvtBytes_sample s.mem s.arg0.toNat hi) s.mem s.arg1.toNat
  case frame => exact readByte_writeBytes_outside _ s.mem _ a (by rwa [cvtBytes_length])

end Sys2Proof.Machine

/-! PROOFS. The errors that CVT_F32 (R110), HDR_WRITE (R142) and ENC_FR (R104) find by their checks. -/

namespace Sys2Proof.Machine

section TurnedAway

variable {s : State} {e : ErrCode}

theorem exec_cvtF32_of_error (h : cvtCheck s = .error e) : exec .cvtF32 s = .next { s with err := e } := by
  rw [exec, execCvtF32, h]
  rfl

theorem exec_hdrWrite_of_error {stereo lossy : Bool} (h : hdrCheck s = .error e) :
    exec (.hdrWrite stereo lossy) s = .next { s with err := e } := by
  rw [exec, execHdrWrite, h]
  rfl

theorem exec_encFr_of_error {stereo : Bool} (h : encFrCheck stereo s = .error e) :
    exec (.encFr stereo) s = .next { s with err := e } := by
  rw [exec, execEncFr, h]
  rfl

/-- R104, R110: the two overlap checks that ENC_FR and CVT_F32 end with. -/
theorem overlap_checks {p q : Prop} [Decidable p] [Decidable q] (h : p ∨ q) :
    (if p then .error .overlap else if q then .error .overlap else .ok () : Except ErrCode Unit) = .error .overlap := by
  rcases h with hp | hq
  · exact if_pos hp
  · rw [if_pos hq, ite_self]

end TurnedAway

/-- Settles O20: the checks in order. -/
theorem cvtAndHdrWriteTurnedAway : Obligations.CvtAndHdrWriteTurnedAway := by
  intro stereo lossy s
  refine ⟨fun hsrc => exec_cvtF32_of_error ?source, fun hsrc hdst => exec_cvtF32_of_error ?dest,
    fun hsrc hdst hover => exec_cvtF32_of_error ?overlap, fun hv => exec_hdrWrite_of_error ?region,
    fun hv hopen => exec_hdrWrite_of_error ?hdrOverlap⟩
  case source => rw [cvtCheck, cvtSource, hsrc]; rfl
  case dest => rw [cvtCheck, cvtSource, cvtDest, hsrc, hdst]; rfl
  case overlap =>
    rw [cvtCheck, cvtSource, cvtDest, hsrc, hdst]
    exact overlap_checks hover
  case region => rw [hdrCheck, hdrRegion, Config.preambleBytes, hv]; rfl
  case hdrOverlap => rw [hdrCheck, hdrRegion, Config.preambleBytes, hv, hopen]; rfl

/-- Settles O27: the checks in order. -/
theorem encFrTurnedAway : Obligations.EncFrTurnedAway := by
  intro stereo s c n b hc hn hb
  obtain rfl : c = channels stereo := hc
  obtain rfl : n = frChunks s.arg2.toNat := hn
  obtain rfl : b = encFrSize stereo s := hb
  refine ⟨fun hf => exec_encFr_of_error ?empty, fun hf hsrc => exec_encFr_of_error ?source, fun hf hsrc => ?sourceOk⟩
  case empty => rw [encFrCheck, if_pos hf]
  case source => rw [encFrCheck, if_neg hf, encSource, hsrc]; rfl
  case sourceOk =>
    refine ⟨fun hcap => exec_encFr_of_error ?capacity, fun hcap hdst => exec_encFr_of_error ?dest,
      fun hcap hdst hover => exec_encFr_of_error ?overlap⟩
    case capacity => rw [encFrCheck, if_neg hf, encSource, hsrc, if_pos hcap]; rfl
    case dest => rw [encFrCheck, if_neg hf, encSource, encFrDest, hsrc, if_neg (not_lt.mpr hcap), hdst]; rfl
    case overlap =>
      rw [encFrCheck, if_neg hf, encSource, encFrDest, hsrc, if_neg (not_lt.mpr hcap), hdst]
      exact overlap_checks hover

end Sys2Proof.Machine

/-! PROOFS. The decoding of an FR body (R105-R107): bytes held in memory, the frames an encoded chunk decodes to, and the
loop of DEC_READ over the chunks of the body. -/

namespace Sys2Proof.Machine

/-! ### Bytes held in memory (R12, R77) -/

/-- Memory holds the bytes `ys` from the address `a` on. -/
def BytesAt (m : List Host.Cell) (a : Nat) (ys : List Byte) : Prop := readBytes m a ys.length = ys

section BytesAt

variable {m : List Host.Cell} {a i j : Nat} {bs ys : List Byte}

theorem BytesAt.readByte (h : BytesAt m a ys) (hj : j < ys.length) : readByte m (a + j) = ys[j] := by
  have hget : (readBytes m a ys.length)[j]'(by simpa using hj) = ys[j] := List.getElem_of_eq h _
  simpa [readBytes] using hget

/-- Memory that holds a list holds each list that stands in it. -/
theorem BytesAt.of_holdsAt (h : BytesAt m a bs) (hys : HoldsAt bs i ys) : BytesAt m (a + i) ys := by
  refine List.ext_getElem (readBytes_length _ _ _) fun j _ hj => ?_
  simp only [readBytes, List.getElem_map, List.getElem_range]
  rw [Nat.add_assoc, h.readByte (hys.lt_length hj), hys.getElem hj]

/-- R77: a sample is read from its bytes. -/
theorem BytesAt.readSample {v : Sample} (h : BytesAt m a (sampleBytes v)) : readSample m a = v := by
  have hbytes : readBytes m a 2 = sampleBytes v := h
  rw [Machine.readSample, readNat, hbytes, leNat_sampleBytes, BitVec.ofNat_toNat, BitVec.setWidth_eq]

/-- R8: a frame is given by its samples, by channel; a mono frame has nothing in channel 1. -/
theorem Frame.ext_get {stereo : Bool} {f g : Frame} (hf : stereo = false → f.ch1 = 0) (hg : stereo = false → g.ch1 = 0)
    (h : ∀ ch, ch < channels stereo → f.get ch = g.get ch) : f = g := by
  have h0 : f.ch0 = g.ch0 := h 0 (by cases stereo <;> decide)
  have h1 : f.ch1 = g.ch1 := by
    cases stereo
    · rw [hf rfl, hg rfl]
    · exact h 1 (by decide)
  calc f = ⟨f.ch0, f.ch1⟩ := rfl
    _ = g := by rw [h0, h1]

/-- R77, R81: a frame is read from its bytes. -/
theorem BytesAt.readFrame {stereo : Bool} {f : Frame} (h : BytesAt m a (frameBytes stereo f))
    (hmono : stereo = false → f.ch1 = 0) : readFrame m stereo a = f :=
  Frame.ext_get (fun hs => if_neg (by simp [hs])) hmono fun ch hch => by
    rw [readFrame_get hch, (h.of_holdsAt (frameBytes_holdsAt f hch)).readSample]

end BytesAt

/-! ### The frames an FR body decodes to (R107) -/

/-- R107: frame `f` of the decoded body of the source `x`: a key as it is, an interior frame as the reconstruction of its
residual bytes between its keys. -/
def frDecoded (stereo : Bool) (x : Nat → Frame) (f : Nat) : Frame :=
  if f % 4 = 0 then x f
  else Frame.build stereo fun ch =>
    frRecon (frQuant ((x f).get ch).toInt ((x (4 * (f / 4))).get ch).toInt ((x (4 * (f / 4) + 4)).get ch).toInt)
      ((x (4 * (f / 4))).get ch).toInt ((x (4 * (f / 4) + 4)).get ch).toInt

section FrDecoded

variable {stereo : Bool} {x : Nat → Frame} {k j : Nat}

/-- R107: a key is decoded as it is. -/
theorem frDecoded_key : frDecoded stereo x (4 * k) = x (4 * k) := if_pos (Nat.mul_mod_right 4 k)

/-- R107: an interior frame is the reconstruction of its residuals. -/
theorem frDecoded_interior (h1 : 1 ≤ j) (h3 : j ≤ 3) :
    frDecoded stereo x (4 * k + j) = Frame.build stereo fun ch =>
      frRecon (frQuant ((x (4 * k + j)).get ch).toInt ((x (4 * k)).get ch).toInt ((x (4 * k + 4)).get ch).toInt)
        ((x (4 * k)).get ch).toInt ((x (4 * k + 4)).get ch).toInt := by
  have hmod : (4 * k + j) % 4 ≠ 0 := by omega
  have hdiv : (4 * k + j) / 4 = k := by omega
  rw [frDecoded, if_neg hmod, hdiv]

/-- R106: the decoder's interior frame, of residuals the encoder wrote, is the decoded frame. -/
theorem frInterior_eq_frDecoded {m : List Host.Cell} {a : Nat} (h1 : 1 ≤ j) (h3 : j ≤ 3)
    (h : BytesAt m (a + channels stereo * (j - 1)) (frResiduals stereo (x (4 * k + j)) (x (4 * k)) (x (4 * k + 4)))) :
    frInterior m stereo a (x (4 * k)) (x (4 * k + 4)) j = frDecoded stereo x (4 * k + j) := by
  have hch1 (y : Nat → Sample) (hs : stereo = false) : (Frame.build stereo y).ch1 = 0 := if_neg (by simp [hs])
  rw [frDecoded_interior h1 h3, frInterior]
  refine Frame.ext_get (hch1 _) (hch1 _) fun ch hch => ?_
  have hbyte := h.readByte (j := ch) (by simpa using hch)
  simp only [frResiduals, List.getElem_map, List.getElem_range] at hbyte
  rw [Frame.build_get hch, Frame.build_get hch, hbyte]

end FrDecoded

/-! ### One unit of an FR body (R105, R106) -/

/-- R81: the chunks up to and with chunk `k`, and the key after them, lie in the body. -/
theorem frChunk_end_le {k n : Nat} (c : Nat) (hk : k < n) : 2 * c + 5 * c * k + 5 * c ≤ frBodySize c n := by
  have hmul : 5 * c * (k + 1) ≤ 5 * c * n := Nat.mul_le_mul_left _ hk
  rw [Nat.mul_succ] at hmul
  rw [frBodySize]
  omega

/-- R105: a context stands at unit `k` of the encoded body of the source `x`, which memory holds. -/
structure Ctx.AtFrUnit (m : List Host.Cell) (stereo : Bool) (x : Nat → Frame) (n k : Nat) (cx : Ctx) : Prop where
  lossy : cx.lossy = true
  stereo_eq : cx.stereo = stereo
  n_eq : cx.n.toNat = n
  unit_eq : cx.unit.toNat = k
  key_eq : cx.key = x (4 * k)
  cursor_eq : cx.cursor.toNat = 10 + 2 * channels stereo + 5 * channels stereo * k
  fits : 10 + frBodySize (channels stereo) n ≤ cx.len.toNat
  body : BytesAt m (cx.base.toNat + 10) (frBody stereo n x)

namespace Ctx.AtFrUnit

variable {m : List Host.Cell} {stereo : Bool} {x : Nat → Frame} {n k : Nat} {cx : Ctx}

theorem n_le_unit_iff (h : cx.AtFrUnit m stereo x n k) : cx.n ≤ cx.unit ↔ n ≤ k := by
  rw [BitVec.le_def, h.n_eq, h.unit_eq]

/-- R127: the trailing key is 1 frame, and a chunk 4. -/
theorem unitLen_eq (h : cx.AtFrUnit m stereo x n k) : unitLen cx = if n ≤ k then 1 else 4 := by
  rw [unitLen, if_pos h.lossy, if_congr h.n_le_unit_iff rfl rfl]
  rfl

/-- R106: the trailing key. -/
theorem decodeUnit_trailing (h : cx.AtFrUnit m stereo x n k) (hk : n ≤ k) :
    decodeUnit m cx = .ok ([x (4 * k)], { cx with unit := cx.unit + 1 }) := by
  rw [decodeUnit, if_pos h.lossy, frDecodeUnit, if_pos (h.n_le_unit_iff.mpr hk), ← h.key_eq]
  rfl

/-- R81, R106: the key after chunk `k`, where the decoder reads it. -/
theorem readFrame_next (h : cx.AtFrUnit m stereo x n k) (hk : k < n) (hmono : ∀ f, stereo = false → (x f).ch1 = 0) :
    readFrame m stereo (cx.base.toNat + cx.cursor.toNat + 3 * channels stereo) = x (4 * k + 4) := by
  have haddr : cx.base.toNat + cx.cursor.toNat + 3 * channels stereo =
      cx.base.toNat + 10 + 5 * channels stereo * (k + 1) := by
    rw [h.cursor_eq]
    ring
  rw [haddr]
  exact (h.body.of_holdsAt (frBody_key hk)).readFrame (hmono _)

/-- R84, R106: interior frame `j` of chunk `k`, of the residuals where the decoder reads them. -/
theorem frInterior_eq (h : cx.AtFrUnit m stereo x n k) (hk : k < n) {j : Nat} (h1 : 1 ≤ j) (h3 : j ≤ 3) :
    frInterior m stereo (cx.base.toNat + cx.cursor.toNat) (x (4 * k)) (x (4 * k + 4)) j =
      frDecoded stereo x (4 * k + j) := by
  have haddr : cx.base.toNat + cx.cursor.toNat + channels stereo * (j - 1) =
      cx.base.toNat + 10 + (5 * channels stereo * k + (2 * channels stereo + channels stereo * (j - 1))) := by
    rw [h.cursor_eq]
    ring
  refine frInterior_eq_frDecoded h1 h3 ?_
  rw [haddr]
  exact h.body.of_holdsAt ((frBody_chunk hk).trans (frChunkBytes_residuals h1 h3))

/-- R106: a chunk gives its four decoded frames, and the context stands at the next unit. -/
theorem decodeUnit_chunk (h : cx.AtFrUnit m stereo x n k) (hk : k < n) (hmono : ∀ f, stereo = false → (x f).ch1 = 0) :
    ∃ cx', decodeUnit m cx = .ok ((List.range 4).map fun j => frDecoded stereo x (4 * k + j), cx') ∧
      cx'.AtFrUnit m stereo x n (k + 1) := by
  have hend := frChunk_end_le (channels stereo) hk
  have hcursor := h.cursor_eq
  have hfits := h.fits
  have hlen := cx.len.isLt
  have hroom : ¬ cx.len.toNat < cx.cursor.toNat + 5 * channels stereo := by omega
  have hframes : x (4 * k) :: [1, 2, 3].map
      (frInterior m stereo (cx.base.toNat + cx.cursor.toNat) (x (4 * k)) (x (4 * k + 4))) =
      (List.range 4).map fun j => frDecoded stereo x (4 * k + j) := by
    simp [List.range_succ, h.frInterior_eq hk, frDecoded_key]
  refine ⟨{ cx with
    key := x (4 * k + 4), cursor := BitVec.ofNat 32 (cx.cursor.toNat + 5 * channels stereo), unit := cx.unit + 1 },
    ?unit, ?place⟩
  case unit =>
    rw [decodeUnit, if_pos h.lossy, frDecodeUnit, if_neg (mt h.n_le_unit_iff.mp (not_le.mpr hk)), h.stereo_eq,
      if_neg hroom]
    dsimp only
    rw [h.readFrame_next hk hmono, h.key_eq, hframes]
    rfl
  case place =>
    have hn := cx.n.isLt
    have hneq := h.n_eq
    have hunit : (cx.unit + 1).toNat = k + 1 := by
      rw [BitVec.toNat_add, h.unit_eq]
      exact Nat.mod_eq_of_lt (show k + 1 < 2 ^ 32 by omega)
    have hcur : (BitVec.ofNat 32 (cx.cursor.toNat + 5 * channels stereo)).toNat =
        10 + 2 * channels stereo + 5 * channels stereo * (k + 1) := by
      rw [BitVec.toNat_ofNat, Nat.mul_succ]
      omega
    exact ⟨h.lossy, h.stereo_eq, h.n_eq, hunit, rfl, hcur, h.fits, h.body⟩

end Ctx.AtFrUnit

/-! ### The whole body (R107, R134) -/

/-- R134: decoding from unit `k` on delivers the decoded frames from frame 4k on, as many as needed. -/
theorem decodeFrames_frBody {m : List Host.Cell} {stereo : Bool} {x : Nat → Frame} {n : Nat}
    (hmono : ∀ f, stereo = false → (x f).ch1 = 0) (fuel : Nat) {k need : Nat} {cx : Ctx}
    (h : cx.AtFrUnit m stereo x n k) (hfuel : need ≤ fuel) (hneed : 4 * k + need ≤ 4 * n + 1) :
    ∃ cx', decodeFrames m fuel cx need = .ok ((List.range need).map fun i => frDecoded stereo x (4 * k + i), cx') := by
  induction fuel generalizing k need cx with
  | zero =>
    obtain rfl : need = 0 := Nat.le_zero.mp hfuel
    exact ⟨cx, rfl⟩
  | succ fuel ih =>
    rcases Nat.eq_zero_or_pos need with rfl | hpos
    · exact ⟨cx, if_pos rfl⟩
    rw [decodeFrames, if_neg hpos.ne', h.unitLen_eq]
    rcases Nat.lt_or_ge k n with hk | hk
    case inr =>
      obtain rfl : need = 1 := by omega
      refine ⟨{ cx with unit := cx.unit + 1 }, ?_⟩
      rw [h.decodeUnit_trailing hk]
      cases fuel <;> simp [hk, decodeFrames, frDecoded_key]
    case inl =>
      obtain ⟨cx1, hunit, hnext⟩ := h.decodeUnit_chunk hk hmono
      rw [hunit, if_neg (not_le.mpr hk)]
      dsimp only
      rcases Nat.lt_or_ge need 4 with hlt | hge
      · rw [if_neg (not_le.mpr hlt), ← List.map_take, List.take_range, Nat.min_eq_left hlt.le]
        exact ⟨_, rfl⟩
      · obtain ⟨rest, rfl⟩ := Nat.exists_eq_add_of_le hge
        obtain ⟨cx2, hrest⟩ := ih hnext (need := rest) (by omega) (by omega)
        refine ⟨cx2, ?_⟩
        have hsub : 4 + rest - ((List.range 4).map fun j => frDecoded stereo x (4 * k + j)).length = rest := by simp
        rw [if_pos hge, hsub, hrest, List.range_add, List.map_append, List.map_map]
        simp [Function.comp_def, Nat.mul_succ, Nat.add_assoc]

/-- R86: the frames of a body of n chunks. -/
theorem le_frChunks (frames : Nat) : frames ≤ 4 * frChunks frames + 1 := by
  rw [frChunks_eq]
  omega

/-- R131: the opened context of an FR stream whose body memory holds stands at unit 0. -/
theorem openedCtx_atFrUnit {m : List Host.Cell} {base len : Word} {p : Preamble} {x : Nat → Frame} (hl : p.lossy = true)
    (hmono : ∀ f, p.stereo = false → (x f).ch1 = 0)
    (hfits : 10 + frBodySize (channels p.stereo) (frChunks p.frames.toNat) ≤ len.toNat)
    (hbody : BytesAt m (base.toNat + 10) (frBody p.stereo (frChunks p.frames.toNat) x)) :
    (openedCtx m base len p).AtFrUnit m p.stereo x (frChunks p.frames.toNat) 0 := by
  have hopened : openedCtx m base len p =
      { Ctx.closed with
        base := base, len := len, frames := p.frames, rate := p.rate, stereo := p.stereo, lossy := true,
        n := BitVec.ofNat 32 (frChunks p.frames.toNat), total := p.frames, remaining := p.frames,
        st := stateFor p.frames .idle, key := readFrame m p.stereo (base.toNat + 10),
        cursor := BitVec.ofNat 32 (10 + 2 * channels p.stereo) } := by
    simp [openedCtx, Ctx.rewind, preambleChunks, totalFrames, hl, Ctx.closed, Config.preambleBytes]
  have hkey : BytesAt m (base.toNat + 10) (frameBytes p.stereo (x (4 * 0))) :=
    hbody.of_holdsAt (frBody_key (Nat.zero_le _))
  have hframes := p.frames.isLt
  have hchunks : frChunks p.frames.toNat < 2 ^ 32 := by
    rw [frChunks_eq]
    omega
  have hcursor : 10 + 2 * channels p.stereo < 2 ^ 32 := by cases p.stereo <;> decide
  rw [hopened]
  exact ⟨rfl, rfl, (BitVec.toNat_ofNat _ _).trans (Nat.mod_eq_of_lt hchunks), rfl, hkey.readFrame (hmono _),
    (BitVec.toNat_ofNat _ _).trans (Nat.mod_eq_of_lt hcursor), hfits, hbody⟩

/-- R134: with nothing in scratch, a read is the loop. -/
theorem readFrames_of_no_scratch {m : List Host.Cell} {cx : Ctx} (h : cx.ovfLen = 0) (k : Nat) :
    readFrames m cx k = decodeFrames m k cx k := by
  have hdrain : drainCount cx k = 0 := by simp [drainCount, h]
  have hcx : { cx with ovfOff := cx.ovfOff + 0 } = cx := by rw [Nat.add_zero]
  rw [readFrames, drained, hdrain, hcx, Nat.sub_zero]
  cases decodeFrames m k cx k <;> rfl

theorem openedCtx_ovfLen (m : List Host.Cell) (base len : Word) (p : Preamble) : (openedCtx m base len p).ovfLen = 0 := by
  unfold openedCtx Ctx.rewind
  dsimp only
  split <;> rfl

/-- Settles O28: the opened context stands at unit 0 of the padded source, and the loop delivers its decoded frames. -/
theorem frBodyDecodes : Obligations.FrBodyDecodes := by
  intro m base len p x hl hf hmono _ hfits hbody
  have hframes : p.frames.toNat ≠ 0 := fun h0 => hf (BitVec.eq_of_toNat_eq h0)
  rw [frBody_length] at hfits
  have hplace := openedCtx_atFrUnit hl (fun _ hs => hmono hs _) hfits hbody
  obtain ⟨cx', hread⟩ := decodeFrames_frBody (fun _ hs => hmono hs _) p.frames.toNat hplace le_rfl
    (by simpa using le_frChunks p.frames.toNat)
  refine ⟨_, cx', (readFrames_of_no_scratch (openedCtx_ovfLen m base len p) _).trans hread, by simp, fun c hc => ?key,
    fun c j h1 h3 hj => ?interior⟩
  case key =>
    have hmin : min (4 * c) (p.frames.toNat - 1) = 4 * c := by omega
    simp [hc, frDecoded_key, hmin]
  case interior =>
    have hmin : min (4 * c) (p.frames.toNat - 1) = 4 * c := by omega
    have hmin' : min (4 * c + j) (p.frames.toNat - 1) = 4 * c + j := by omega
    refine ⟨frDecoded p.stereo (fun f => x (min f (p.frames.toNat - 1))) (4 * c + j), by simp [hj], fun ch hch => ?_⟩
    rw [frDecoded_interior h1 h3, Frame.build_get hch, hmin, hmin']

end Sys2Proof.Machine

/-! PROOFS. The types of AD chunks (R115), and the grouping of chunks into runs (R117). -/

namespace Sys2Proof.Machine

/-! ### The type of a chunk (R115) -/

/-- R114: a bound on `maxAbsDelta` from a start value on is one on the start value and on every delta. -/
theorem foldl_max_natAbs_le_iff (ds : List Int) (start n : Nat) :
    ds.foldl (fun acc d => max acc d.natAbs) start ≤ n ↔ start ≤ n ∧ ∀ d ∈ ds, d.natAbs ≤ n := by
  induction ds generalizing start with
  | nil => simp
  | cons d ds ih => rw [List.foldl_cons, ih, max_le_iff, List.forall_mem_cons, and_assoc]

/-- R114: `maxAbsDelta` is at most `n` when every delta is. -/
theorem maxAbsDelta_le_iff {ds : List Int} {n : Nat} : maxAbsDelta ds ≤ n ↔ ∀ d ∈ ds, d.natAbs ≤ n := by
  rw [maxAbsDelta, foldl_max_natAbs_le_iff]
  exact and_iff_right (Nat.zero_le n)

/-- R114: `maxAbsDelta` is above `n` when some delta is. -/
theorem lt_maxAbsDelta_iff {ds : List Int} {n : Nat} : n < maxAbsDelta ds ↔ ∃ d ∈ ds, n < d.natAbs := by
  rw [← not_le, maxAbsDelta_le_iff]
  push Not
  rfl

/-- R115: the type of a chunk that is not the first, by `maxAbsDelta`. -/
theorem adClassify_false_cases (ds : List Int) :
    (maxAbsDelta ds ≤ 127 ∧ adClassify false ds = .small) ∨
    (127 < maxAbsDelta ds ∧ maxAbsDelta ds ≤ 2047 ∧ adClassify false ds = .medium) ∨
    (2047 < maxAbsDelta ds ∧ adClassify false ds = .full) := by
  rw [adClassify, if_neg Bool.false_ne_true, Config.adSmallMax, Config.adMediumMax]
  split_ifs with hsmall hmedium
  · exact .inl ⟨hsmall, rfl⟩
  · exact .inr (.inl ⟨not_le.mp hsmall, hmedium, rfl⟩)
  · exact .inr (.inr ⟨not_le.mp hmedium, rfl⟩)

/-- Settles O29: the three cases of `maxAbsDelta` exclude each other. -/
theorem adChunkTypeByLargestDelta : Obligations.AdChunkTypeByLargestDelta := by
  intro ds
  rw [← maxAbsDelta_le_iff, ← maxAbsDelta_le_iff, ← lt_maxAbsDelta_iff, ← lt_maxAbsDelta_iff]
  refine ⟨rfl, ?_⟩
  rcases adClassify_false_cases ds with ⟨hle, htype⟩ | ⟨hlt, hle, htype⟩ | ⟨hlt, htype⟩ <;> rw [htype]
  · simp [hle, not_lt.mpr hle, not_lt.mpr (hle.trans (by decide : 127 ≤ 2047))]
  · simp [hle, hlt, not_le.mpr hlt, not_lt.mpr hle]
  · simp [hlt, not_le.mpr hlt, not_le.mpr ((by decide : 127 < 2047).trans hlt)]

/-! ### Greedy runs (R117) -/

/-- R117: a run that another of its type may follow: a full one. -/
def AdRun.mayPrecede (r q : AdRun) : Prop := r.type = q.type → r.payloads.length = 64

/-- R117: a run begun takes every chunk it can, so the run after it has another type or finds it full. -/
theorem adGroupFrom_greedy {cur : List (List Byte)} (h64 : cur.length ≤ 64) (t : AdType) (cs : List AdChunk) :
    (adGroupFrom t cur cs).IsChain AdRun.mayPrecede := by
  induction cs generalizing t cur with
  | nil => exact List.isChain_singleton _
  | cons ch rest ih =>
    rw [adGroupFrom, Config.adRunMax]
    split
    · exact ih (by rw [List.length_append, List.length_singleton]; omega) t
    · rename_i hstop
      obtain ⟨ps, more, hnext⟩ := adGroupFrom_first ch.type [ch.payload] rest
      have hrest := ih (cur := [ch.payload]) (by simp) ch.type
      rw [hnext] at hrest ⊢
      refine List.isChain_cons_cons.mpr ⟨fun htype => ?_, hrest⟩
      exact le_antisymm h64 (not_lt.mp fun hlt => hstop ⟨Eq.symm htype, hlt⟩)

theorem adGroup_greedy (cs : List AdChunk) : (adGroup cs).IsChain AdRun.mayPrecede := by
  cases cs with
  | nil => exact List.isChain_nil
  | cons ch rest => exact adGroupFrom_greedy (by simp) ch.type rest

theorem AdType.code_lt (t : AdType) : t.code < 3 := by
  cases t <;> decide

/-- Settles O31: the chunks of the runs, their lengths and header bytes, and greediness. -/
theorem runsAreGreedy : Obligations.RunsAreGreedy := by
  intro cs
  refine ⟨adGroup_chunks cs, fun r hr => ?bytes, fun i r q hr hq htype => ?greedy⟩
  case bytes =>
    obtain ⟨h1, h64⟩ := adGroup_run_length cs r hr
    have hcode := r.type.code_lt
    refine ⟨h1, h64, _, rfl, ?_⟩
    rw [runHeaderByte_toNat (by omega) (by omega), Nat.mul_comm]
  case greedy =>
    obtain ⟨hi, rfl⟩ := List.getElem?_eq_some_iff.mp hr
    obtain ⟨hi', rfl⟩ := List.getElem?_eq_some_iff.mp hq
    exact (adGroup_greedy cs).getElem i hi' htype

end Sys2Proof.Machine

/-! PROOFS. The errors of ENC_AD (R119). -/

namespace Sys2Proof.Machine

theorem exec_encAd_of_error {stereo : Bool} {s : State} {e : ErrCode} (h : encAdCheck stereo s = .error e) :
    exec (.encAd stereo) s = .next { s with err := e } := by
  rw [exec, execEncAd, h]
  rfl

/-- R47: two regions at one address overlap when neither is empty. -/
theorem Region.overlaps_of_same_base {a n k : Nat} (hn : 0 < n) (hk : 0 < k) :
    Region.overlaps ⟨a, n⟩ ⟨a, k⟩ = true :=
  (Region.overlaps_iff _ _).mpr ⟨a, ⟨le_rfl, Nat.lt_add_of_pos_right hn⟩, le_rfl, Nat.lt_add_of_pos_right hk⟩

theorem channels_pos (stereo : Bool) : 0 < channels stereo := by
  cases stereo <;> decide

/-- R118: a source of a whole chunk has a body. -/
theorem encAdBody_length_pos (stereo : Bool) {s : State} (h : 8 ≤ s.arg2.toNat) : 0 < (encAdBody stereo s).length := by
  obtain ⟨-, -, -, -, -, hfirst⟩ := adBodySizeAndFirstHeader stereo s
  obtain ⟨b, hb, -⟩ := hfirst h
  obtain ⟨hlt, -⟩ := List.getElem?_eq_some_iff.mp hb
  exact hlt

/-- R54 (b): in place, source and destination of ENC_AD overlap when there is a chunk to encode. -/
theorem encAd_inPlace_overlaps (stereo : Bool) {s : State} (h8 : 8 ≤ s.arg2.toNat) (h : s.arg1 = s.arg0) :
    (encSource stereo s).overlaps (encAdDest stereo s) = true := by
  have hsrc : 0 < 2 * channels stereo * s.arg2.toNat :=
    Nat.mul_pos (Nat.mul_pos Nat.two_pos (channels_pos stereo)) (by omega)
  rw [encSource, encAdDest, h]
  exact Region.overlaps_of_same_base hsrc (encAdBody_length_pos stereo h8)

/-- Settles O34: the checks in order; a non-empty body in place overlaps its source. -/
theorem encAdTurnedAway : Obligations.EncAdTurnedAway := by
  intro stereo s
  refine ⟨fun hf => exec_encAd_of_error ?empty, fun hf hsrc => exec_encAd_of_error ?source, fun hf hsrc => ?sourceOk⟩
  case empty => rw [encAdCheck, if_pos hf]
  case source => rw [encAdCheck, if_neg hf, encSource, hsrc]; rfl
  case sourceOk =>
    refine ⟨fun hcap => exec_encAd_of_error ?capacity, fun hcap hdst => exec_encAd_of_error ?dest,
      fun hcap hdst hover => exec_encAd_of_error ?overlap⟩
    case capacity => rw [encAdCheck, if_neg hf, encSource, hsrc, if_pos hcap]; rfl
    case dest => rw [encAdCheck, if_neg hf, encSource, encAdDest, hsrc, if_neg (not_lt.mpr hcap), hdst]; rfl
    case overlap =>
      have hover' := hover.elim (fun ⟨h8, hbase⟩ => .inl (encAd_inPlace_overlaps stereo h8 hbase)) id
      rw [encAdCheck, if_neg hf, encSource, encAdDest, hsrc, if_neg (not_lt.mpr hcap), hdst]
      exact overlap_checks hover'

end Sys2Proof.Machine

/-! PROOFS. AD deltas and payloads by index: what the encoder writes (R91, R114, R116) and what the decoder reads (R122,
R123). With c channels, sample `ch` of frame `q` of a chunk is number c·q + ch. -/

namespace Sys2Proof.Machine

/-! ### Lists held at an offset, by index -/

theorem HoldsAt.getElem? {α : Type} {xs ys : List α} {i j : Nat} {v : α} (h : HoldsAt xs i ys) (hv : ys[j]? = some v) :
    xs[i + j]? = some v := by
  obtain ⟨hj, rfl⟩ := List.getElem?_eq_some_iff.mp hv
  exact List.getElem?_eq_some_iff.mpr ⟨h.lt_length hj, h.getElem hj⟩

/-- The blocks of a list's elements, all of one length, stand at the multiples of that length. -/
theorem holdsAt_flatMap {α β : Type} {f : α → List β} {len : Nat} (hlen : ∀ y, (f y).length = len) {xs : List α}
    {k : Nat} {x : α} (hx : xs[k]? = some x) : HoldsAt (xs.flatMap f) (len * k) (f x) := by
  induction xs generalizing k with
  | nil => simp at hx
  | cons y ys ih =>
    rw [List.flatMap_cons]
    cases k with
    | zero =>
      obtain rfl : y = x := by simpa using hx
      exact (holdsAt_self _).append_right _
    | succ k =>
      have hrest := (ih (by simpa using hx)).append_left (f y)
      rwa [hlen, Nat.add_comm, ← Nat.mul_succ] at hrest

/-! ### What the encoder writes -/

section Encoder

variable {stereo : Bool}

/-- R114: delta c·q + ch is sample `ch` of frame `q` less that of the frame before. -/
theorem adDeltas_getElem? {q ch : Nat} (hch : ch < channels stereo) {prev before f : Frame} {fs : List Frame}
    (hf : fs[q]? = some f) (hb : (prev :: fs)[q]? = some before) :
    (adDeltas stereo prev fs)[channels stereo * q + ch]? = some ((f.get ch).toInt - (before.get ch).toInt) := by
  induction fs generalizing prev q with
  | nil => simp at hf
  | cons y rest ih =>
    rw [adDeltas]
    cases q with
    | zero =>
      obtain rfl : y = f := by simpa using hf
      obtain rfl : prev = before := by simpa using hb
      rw [Nat.mul_zero, Nat.zero_add, List.getElem?_append_left (by simpa using hch)]
      simp [hch]
    | succ q =>
      have hsub : channels stereo * (q + 1) + ch - channels stereo = channels stereo * q + ch := by
        rw [Nat.mul_succ]
        omega
      rw [List.getElem?_append_right (by simp [Nat.mul_succ]; omega), List.length_map, List.length_range, hsub]
      exact ih (by simpa using hf) (by simpa using hb)

/-- R91, R116: the 24-bit word of a pair of deltas. -/
theorem mediumBytes_holdsAt {g : Nat} {ds : List Int} {a b : Int} (ha : ds[2 * g]? = some a)
    (hb : ds[2 * g + 1]? = some b) : HoldsAt (mediumBytes ds) (3 * g) (leBytes 3 (mediumWord a b)) := by
  induction g generalizing ds with
  | zero =>
    match ds, ha, hb with
    | a' :: b' :: rest, ha, hb =>
      obtain rfl : a' = a := by simpa using ha
      obtain rfl : b' = b := by simpa using hb
      exact (holdsAt_self _).append_right _
  | succ g ih =>
    match ds, ha, hb with
    | a' :: b' :: rest, ha, hb =>
      have hrest := (ih (ds := rest) (by simpa [Nat.mul_succ] using ha) (by simpa [Nat.mul_succ] using hb)).append_left
        (leBytes 3 (mediumWord a' b'))
      rwa [leBytes_length, Nat.add_comm, ← Nat.mul_succ] at hrest

/-- R77: a frame of a PCM buffer. -/
theorem pcmBytes_holdsAt {q : Nat} {f : Frame} {fs : List Frame} (hf : fs[q]? = some f) :
    HoldsAt (pcmBytes stereo fs) (2 * channels stereo * q) (frameBytes stereo f) :=
  holdsAt_flatMap (frameBytes_length stereo) hf

/-- R77: a sample of a PCM buffer. -/
theorem pcmBytes_holdsAt_sample {q ch : Nat} (hch : ch < channels stereo) {f : Frame} {fs : List Frame}
    (hf : fs[q]? = some f) :
    HoldsAt (pcmBytes stereo fs) (2 * (channels stereo * q + ch)) (sampleBytes (f.get ch)) := by
  have hoff : 2 * channels stereo * q + 2 * ch = 2 * (channels stereo * q + ch) := by ring
  exact hoff ▸ (pcmBytes_holdsAt hf).trans (frameBytes_holdsAt f hch)

end Encoder

/-! ### What the decoder reads -/

section Decoder

variable {m : List Host.Cell} {a c j : Nat} {stereo : Bool}

theorem smallDeltas_getElem? (h : j < 8 * c) : (smallDeltas m c a)[j]? = some (readByte m (a + j)).toInt := by
  simp [smallDeltas, h]

/-- R91: delta `j` is half j mod 2 of word j div 2. -/
theorem mediumDeltas_getElem? (h : j < 8 * c) :
    (mediumDeltas m c a)[j]? = some (sext12 (readNat m (a + 3 * (j / 2)) 3 / 4096 ^ (j % 2))) := by
  have hword := holdsAt_flatMap_range (n := 4 * c) (k := j / 2) (len := 2)
    (f := fun g => [sext12 (readNat m (a + 3 * g) 3), sext12 (readNat m (a + 3 * g) 3 / 4096)])
    (fun _ => rfl) (by omega)
  have hhalf := hword.getElem? (j := j % 2) (v := sext12 (readNat m (a + 3 * (j / 2)) 3 / 4096 ^ (j % 2))) (by
    rcases Nat.mod_two_eq_zero_or_one j with h0 | h1
    · simp [h0]
    · simp [h1])
  rwa [Nat.div_add_mod] at hhalf

/-- R122, R123: a row of deltas, one for each channel, gives the next frame. -/
theorem integrate_row (prev : Frame) (δ : Nat → Int) (rest : List Int) :
    integrate stereo prev ((List.range (channels stereo)).map δ ++ rest) =
      Frame.build stereo (fun ch => wrap16 ((prev.get ch).toInt + δ ch)) ::
        integrate stereo (Frame.build stereo fun ch => wrap16 ((prev.get ch).toInt + δ ch)) rest := by
  cases stereo <;> rfl

/-- R122, R123: sample `ch` of frame `q` is the one before it plus its delta. -/
theorem integrate_getElem? {n q ch : Nat} (hq : q < n) (hch : ch < channels stereo) {ds : List Int}
    (hlen : ds.length = channels stereo * n) {prev before f : Frame} {d : Int}
    (hf : (integrate stereo prev ds)[q]? = some f) (hb : (prev :: integrate stereo prev ds)[q]? = some before)
    (hd : ds[channels stereo * q + ch]? = some d) : f.get ch = wrap16 ((before.get ch).toInt + d) := by
  induction n generalizing q prev ds with
  | zero => omega
  | succ n ih =>
    have hrow : ds = (List.range (channels stereo)).map (fun i => ds[i]?.getD 0) ++ ds.drop (channels stereo) := by
      rw [Nat.mul_succ] at hlen
      refine List.ext_getElem? fun i => ?_
      rcases Nat.lt_or_ge i (channels stereo) with hi | hi
      · rw [List.getElem?_append_left (by simpa using hi)]
        simp [hi, List.getElem?_eq_getElem (show i < ds.length by omega)]
      · rw [List.getElem?_append_right (by simpa using hi)]
        simp [Nat.add_sub_cancel' hi]
    rw [hrow, integrate_row] at hf hb
    cases q with
    | zero =>
      obtain rfl : _ = f := Option.some.inj hf
      obtain rfl : prev = before := Option.some.inj hb
      have hd' : ds[ch]? = some d := by simpa using hd
      rw [Frame.build_get hch, hd']
      rfl
    | succ q =>
      refine ih (q := q) (by omega) ?_ hf hb ?_
      · rw [List.length_drop, hlen, Nat.mul_succ, Nat.add_sub_cancel]
      · rw [List.getElem?_drop, ← hd, Nat.mul_succ]
        congr 1
        omega

end Decoder

end Sys2Proof.Machine

/-! PROOFS. The losslessness of AD (R125): the payload of a chunk decodes to its frames, and the loop of DEC_READ over
the chunks of the runs. -/

namespace Sys2Proof.Machine

/-! ### One payload (R116, R122) -/

/-- R10: `wrap16` gives back the sample of a value. -/
theorem wrap16_of_toInt (v : Sample) : wrap16 v.toInt = v := BitVec.ofInt_toInt

/-- R114, R123: the deltas of a list of frames give back the frames. -/
theorem integrate_adDeltas {stereo : Bool} (prev : Frame) {fs : List Frame}
    (hmono : ∀ f ∈ fs, stereo = false → f.ch1 = 0) : integrate stereo prev (adDeltas stereo prev fs) = fs := by
  induction fs generalizing prev with
  | nil => cases stereo <;> rfl
  | cons x rest ih =>
    obtain ⟨hx, hrest⟩ := List.forall_mem_cons.mp hmono
    have hnext : (Frame.build stereo fun ch =>
        wrap16 ((prev.get ch).toInt + ((x.get ch).toInt - (prev.get ch).toInt))) = x := by
      refine Frame.ext_get (fun hs => if_neg (by simp [hs])) hx fun ch hch => ?_
      rw [Frame.build_get hch, add_sub_cancel, wrap16_of_toInt]
    rw [adDeltas, integrate_row, hnext, ih x hrest]

section Payload

variable {m : List Host.Cell} {a c : Nat} {ds : List Int}

/-- R90, R116: a Small payload holds the deltas of at most 127. -/
theorem smallDeltas_of_bytesAt (hlen : ds.length = 8 * c) (hsmall : ∀ d ∈ ds, d.natAbs ≤ 127)
    (h : BytesAt m a (ds.map fun d => BitVec.ofInt 8 d)) : smallDeltas m c a = ds := by
  refine List.ext_getElem (by rw [smallDeltas_length, hlen]) fun j _ hj => ?_
  have hbound := hsmall _ (List.getElem_mem hj)
  have hbyte := h.readByte (j := j) (by simpa using hj)
  rw [List.getElem_map] at hbyte
  simp only [smallDeltas, List.getElem_map, List.getElem_range]
  rw [hbyte, BitVec.toInt_ofInt]
  exact Int.bmod_eq_of_le (by omega) (by omega)

/-- R91, R116: a Medium payload holds the deltas of at most 2047. -/
theorem mediumDeltas_of_bytesAt (hlen : ds.length = 8 * c) (hmedium : ∀ d ∈ ds, d.natAbs ≤ 2047)
    (h : BytesAt m a (mediumBytes ds)) : mediumDeltas m c a = ds := by
  refine List.ext_getElem? fun j => ?_
  rcases Nat.lt_or_ge j (8 * c) with hj | hj
  case inr => rw [List.getElem?_eq_none (by rwa [mediumDeltas_length]), List.getElem?_eq_none (by omega)]
  have h0 : 2 * (j / 2) < ds.length := by omega
  have h1 : 2 * (j / 2) + 1 < ds.length := by omega
  have hword := h.of_holdsAt (mediumBytes_holdsAt (List.getElem?_eq_getElem h0) (List.getElem?_eq_getElem h1))
  have hread : readNat m (a + 3 * (j / 2)) 3 = mediumWord ds[2 * (j / 2)] ds[2 * (j / 2) + 1] := by
    rw [BytesAt, leBytes_length] at hword
    rw [readNat, hword, leNat_leBytes, Nat.mod_eq_of_lt (mediumWord_lt _ _)]
  have hb0 := hmedium _ (List.getElem_mem h0)
  have hb1 := hmedium _ (List.getElem_mem h1)
  rw [mediumDeltas_getElem? hj, hread, List.getElem?_eq_getElem (show j < ds.length by omega)]
  congr 1
  rcases Nat.mod_two_eq_zero_or_one j with hmod | hmod
  · have hidx : 2 * (j / 2) = j := by omega
    rw [hmod, pow_zero, Nat.div_one, sext12_eq (mediumWord_mod _ _) (by omega) (by omega)]
    simp only [hidx]
  · have hidx : 2 * (j / 2) + 1 = j := by omega
    have hhigh : mediumWord ds[2 * (j / 2)] ds[2 * (j / 2) + 1] / 4096 % 4096 = (ds[2 * (j / 2) + 1] % 4096).toNat := by
      rw [mediumWord_div]
      omega
    rw [hmod, pow_one, sext12_eq hhigh (by omega) (by omega)]
    simp only [hidx]

/-- R77, R116: a Full payload holds the frames. -/
theorem map_readFrame_of_bytesAt {stereo : Bool} {fs : List Frame} (hlen : fs.length = 8)
    (hmono : ∀ f ∈ fs, stereo = false → f.ch1 = 0) (h : BytesAt m a (pcmBytes stereo fs)) :
    ((List.range Config.adChunk).map fun q => readFrame m stereo (a + 2 * channels stereo * q)) = fs := by
  refine List.ext_getElem (by simp [hlen, Config.adChunk]) fun q _ hq => ?_
  rw [List.getElem_map, List.getElem_range]
  exact (h.of_holdsAt (pcmBytes_holdsAt (List.getElem?_eq_getElem hq))).readFrame (hmono _ (List.getElem_mem hq))

/-- R115: the deltas of a Small or Medium chunk are those its payload can hold. -/
theorem natAbs_le_of_adClassify {first : Bool} :
    (adClassify first ds = .small → ∀ d ∈ ds, d.natAbs ≤ 127) ∧
    (adClassify first ds = .medium → ∀ d ∈ ds, d.natAbs ≤ 2047) := by
  obtain ⟨hfirst, hsmall, hmedium, -⟩ := adChunkTypeByLargestDelta ds
  cases first
  · exact ⟨hsmall.mp, fun h => And.left (hmedium.mp h)⟩
  · simp [hfirst]

/-- R125: the payload of a chunk decodes to its frames. -/
theorem adFrames_of_adPayload {stereo first : Bool} {acc : Frame} {fs : List Frame} (hlen : fs.length = 8)
    (hmono : ∀ f ∈ fs, stereo = false → f.ch1 = 0)
    (h : BytesAt m a (adPayload stereo (adClassify first (adDeltas stereo acc fs)) fs (adDeltas stereo acc fs))) :
    adFrames m stereo (adClassify first (adDeltas stereo acc fs)) a acc = fs := by
  have hds : (adDeltas stereo acc fs).length = 8 * channels stereo := by rw [adDeltas_length, hlen, Nat.mul_comm]
  obtain ⟨hsmall, hmedium⟩ := natAbs_le_of_adClassify (first := first) (ds := adDeltas stereo acc fs)
  cases ht : adClassify first (adDeltas stereo acc fs) <;> rw [ht] at h
  case small => rw [adFrames, smallDeltas_of_bytesAt hds (hsmall ht) h, integrate_adDeltas acc hmono]
  case medium => rw [adFrames, mediumDeltas_of_bytesAt hds (hmedium ht) h, integrate_adDeltas acc hmono]
  case full => exact map_readFrame_of_bytesAt hlen hmono h

end Payload

/-! ### The chunks ahead (R117, R122) -/

/-- R89: a type is that of its code. -/
@[simp] theorem AdType.ofCode_code (t : AdType) : AdType.ofCode t.code = some t := by
  cases t <;> rfl

/-- R88: the header byte of a run gives its type and its length less 1. -/
theorem adRun_header_fields {r : AdRun} (h1 : 1 ≤ r.payloads.length) (h64 : r.payloads.length ≤ 64) :
    headerTypeField (runHeaderByte r.type.code (r.payloads.length - 1)) = r.type.code ∧
      headerExtraField (runHeaderByte r.type.code (r.payloads.length - 1)) + 1 = r.payloads.length := by
  have hcode := r.type.code_lt
  obtain ⟨htype, hextra⟩ := runHeaderByte_fields (type := r.type.code) (extra := r.payloads.length - 1)
    (by omega) (by omega)
  exact ⟨htype, by omega⟩

/-- R85, R117: the rest of a body: the payloads left of the run begun, then the runs after it. -/
def adRest (ps : List (List Byte)) (rs : List AdRun) : List Byte := ps.flatten ++ rs.flatMap adRunBytes

theorem adRest_cons (p : List Byte) (ps : List (List Byte)) (rs : List AdRun) :
    adRest (p :: ps) rs = p ++ adRest ps rs := by
  simp [adRest]

theorem adRest_nil_cons (r : AdRun) (rs : List AdRun) :
    adRest [] (r :: rs) = [runHeaderByte r.type.code (r.payloads.length - 1)] ++ adRest r.payloads rs := by
  simp [adRest, adRunBytes]

/-- A context stands before chunk `k` of the source `x`, with `count` chunks to go: at the offset `cur` of its stream
memory holds the payloads `ps` left of a run of type `t`, then the runs `rs`, and these are the chunks to go. -/
structure Ctx.AdAhead (m : List Host.Cell) (stereo : Bool) (x : Nat → Frame) (k count cur : Nat) (t : AdType)
    (ps : List (List Byte)) (rs : List AdRun) (cx : Ctx) : Prop where
  lossy : cx.lossy = false
  stereo_eq : cx.stereo = stereo
  unit_eq : cx.unit.toNat = k
  count_lt : k + count < 2 ^ 32
  run_length : ∀ r ∈ rs, 1 ≤ r.payloads.length ∧ r.payloads.length ≤ 64
  chunks : AdRun.chunks ⟨t, ps⟩ ++ rs.flatMap AdRun.chunks = adPass1 stereo x count k cx.acc
  fits : cur + (adRest ps rs).length ≤ cx.len.toNat
  body : BytesAt m (cx.base.toNat + cur) (adRest ps rs)

/-- R122: a context stands before chunk `k`, its cursor, run type and run counter those of the chunks ahead. -/
def Ctx.AtAdUnit (m : List Host.Cell) (stereo : Bool) (x : Nat → Frame) (k count : Nat) (cx : Ctx) : Prop :=
  ∃ ps rs, cx.AdAhead m stereo x k count cx.cursor.toNat cx.runType ps rs ∧ cx.runLeft = ps.length

namespace Ctx.AdAhead

variable {m : List Host.Cell} {stereo : Bool} {x : Nat → Frame} {k count cur : Nat} {t : AdType} {p : List Byte}
  {ps : List (List Byte)} {r : AdRun} {rs : List AdRun} {cx : Ctx}

/-- R119: the first payload ahead is that of chunk `k`. -/
theorem first_chunk (h : cx.AdAhead m stereo x k (count + 1) cur t (p :: ps) rs) :
    t = adClassify (k == 0) (adDeltas stereo cx.acc (adChunkFrames x k)) ∧
    p = adPayload stereo t (adChunkFrames x k) (adDeltas stereo cx.acc (adChunkFrames x k)) ∧
    AdRun.chunks ⟨t, ps⟩ ++ rs.flatMap AdRun.chunks = adPass1 stereo x count (k + 1) (x (8 * k + 7)) := by
  have hchunks := h.chunks
  simp only [adPass1, AdRun.chunks, List.map_cons, List.cons_append, List.cons.injEq, AdChunk.mk.injEq] at hchunks
  obtain ⟨⟨rfl, rfl⟩, hrest⟩ := hchunks
  exact ⟨rfl, rfl, hrest⟩

/-- R122: the chunk rule gives the frames of chunk `k`, and the context stands before the next chunk. -/
theorem payloadUnit (h : cx.AdAhead m stereo x k (count + 1) cur t (p :: ps) rs)
    (hmono : ∀ f, stereo = false → (x f).ch1 = 0) :
    ∃ cx', advanceUnit (adPayloadUnit m cx cur t (ps.length + 1)) = .ok (adChunkFrames x k, cx') ∧
      cx'.AtAdUnit m stereo x (k + 1) count := by
  obtain ⟨ht, hp, hchunks⟩ := h.first_chunk
  have hfs := adChunkFrames_length x k
  have hmono' : ∀ f ∈ adChunkFrames x k, stereo = false → f.ch1 = 0 := by
    intro f hf
    obtain ⟨q, -, rfl⟩ := List.mem_map.mp hf
    exact hmono _
  have hsize : p.length = t.width * channels stereo := by
    rw [hp]
    exact adPayload_length stereo t hfs (by rw [adDeltas_length, hfs])
  have hbody := h.body
  have hfits := h.fits
  rw [adRest_cons] at hbody hfits
  rw [List.length_append] at hfits
  have hframes : adFrames m stereo t (cx.base.toNat + cur) cx.acc = adChunkFrames x k := by
    have hpayload := hbody.of_holdsAt ((holdsAt_self p).append_right (adRest ps rs))
    rw [hp, ht] at hpayload
    rw [ht]
    exact adFrames_of_adPayload hfs hmono' hpayload
  have hlen := cx.len.isLt
  have hcount := h.count_lt
  have hcursor : (BitVec.ofNat 32 (cur + p.length)).toNat = cur + p.length :=
    (BitVec.toNat_ofNat _ _).trans (Nat.mod_eq_of_lt (by omega))
  have hunit : (cx.unit + 1).toNat = k + 1 := by
    rw [BitVec.toNat_add, h.unit_eq]
    exact Nat.mod_eq_of_lt (show k + 1 < 2 ^ 32 by omega)
  refine ⟨{ cx with
    acc := x (8 * k + 7), cursor := BitVec.ofNat 32 (cur + p.length), runType := t, runLeft := ps.length,
    unit := cx.unit + 1 }, ?unit, ps, rs, ?place, rfl⟩
  case unit =>
    rw [adPayloadUnit, h.stereo_eq, ← hsize, if_neg (by omega), hframes]
    rfl
  case place =>
    refine ⟨h.lossy, h.stereo_eq, hunit, by omega, h.run_length, hchunks, ?_, ?_⟩ <;> dsimp only <;> rw [hcursor]
    · omega
    · have hrest := hbody.of_holdsAt ((holdsAt_self (adRest ps rs)).append_left p)
      rwa [Nat.add_zero, Nat.add_assoc] at hrest

/-- R88, R122: a run ahead begins with its header byte, and its payloads follow. -/
theorem header (h : cx.AdAhead m stereo x k count cur t [] (r :: rs)) :
    cur + 1 ≤ cx.len.toNat ∧
    readByte m (cx.base.toNat + cur) = runHeaderByte r.type.code (r.payloads.length - 1) ∧
    cx.AdAhead m stereo x k count (cur + 1) r.type r.payloads rs := by
  obtain ⟨-, hruns⟩ := List.forall_mem_cons.mp h.run_length
  have hbody := h.body
  have hfits := h.fits
  rw [adRest_nil_cons] at hbody hfits
  rw [List.length_append, List.length_singleton] at hfits
  have hrest := hbody.of_holdsAt ((holdsAt_self (adRest r.payloads rs)).append_left _)
  exact ⟨by omega, hbody.readByte (j := 0) (by simp),
    h.lossy, h.stereo_eq, h.unit_eq, h.count_lt, hruns, h.chunks, by omega, hrest⟩

/-- R115: a run that heads the stream is Full. -/
theorem full_of_unit_eq_zero (h : cx.AdAhead m stereo x k (count + 1) cur t (p :: ps) rs) (h0 : cx.unit = 0) :
    t = .full := by
  obtain ⟨ht, -⟩ := h.first_chunk
  have hk : k = 0 := by
    rw [← h.unit_eq, h0]
    rfl
  rw [ht, hk]
  rfl

end Ctx.AdAhead

/-- R122: one decoding step gives the frames of chunk `k`. -/
theorem Ctx.AtAdUnit.decodeUnit {m : List Host.Cell} {stereo : Bool} {x : Nat → Frame} {k count : Nat} {cx : Ctx}
    (h : cx.AtAdUnit m stereo x k (count + 1)) (hmono : ∀ f, stereo = false → (x f).ch1 = 0) :
    ∃ cx', decodeUnit m cx = .ok (adChunkFrames x k, cx') ∧ cx'.AtAdUnit m stereo x (k + 1) count := by
  obtain ⟨ps, rs, h, hleft⟩ := h
  rw [Machine.decodeUnit, h.lossy, if_neg Bool.false_ne_true, adDecodeUnit, hleft]
  cases ps with
  | cons p ps =>
    rw [if_neg (by simp)]
    exact h.payloadUnit hmono
  | nil =>
    cases rs with
    | nil => simpa [AdRun.chunks, adPass1] using h.chunks
    | cons r rs =>
      obtain ⟨hcur, hbyte, hrun⟩ := h.header
      obtain ⟨⟨h1, h64⟩, -⟩ := List.forall_mem_cons.mp h.run_length
      obtain ⟨htype, hextra⟩ := adRun_header_fields h1 h64
      obtain ⟨p, ps, hps⟩ := List.exists_cons_of_length_pos h1
      rw [hps] at hrun
      rw [if_pos List.length_nil, fetchRunHeader_eq hcur, hbyte]
      dsimp only
      rw [htype, AdType.ofCode_code, adHeaderUnit,
        if_neg (not_and_not_right.mpr hrun.full_of_unit_eq_zero), hextra, hps]
      exact hrun.payloadUnit hmono

/-! ### The whole body (R125, R134) -/

/-- R111: the frames of a chunk, then those of the chunks after it. -/
theorem adChunkFrames_append (x : Nat → Frame) (k count : Nat) :
    adChunkFrames x k ++ (List.range (8 * count)).map (fun i => x (8 * (k + 1) + i)) =
      (List.range (8 * (count + 1))).map fun i => x (8 * k + i) := by
  rw [show 8 * (count + 1) = 8 + 8 * count by ring, List.range_add, List.map_append, List.map_map]
  simp [adChunkFrames, Config.adChunk, Function.comp_def, Nat.mul_succ, Nat.add_assoc]

/-- R125, R134: decoding from chunk `k` on delivers the frames of the chunks to go. -/
theorem decodeFrames_adRuns {m : List Host.Cell} {stereo : Bool} {x : Nat → Frame}
    (hmono : ∀ f, stereo = false → (x f).ch1 = 0) (fuel : Nat) {k count : Nat} {cx : Ctx}
    (h : cx.AtAdUnit m stereo x k count) (hfuel : 8 * count ≤ fuel) :
    ∃ cx', decodeFrames m fuel cx (8 * count) = .ok ((List.range (8 * count)).map fun i => x (8 * k + i), cx') := by
  induction count generalizing fuel k cx with
  | zero => cases fuel <;> exact ⟨cx, rfl⟩
  | succ count ih =>
    obtain ⟨fuel, rfl⟩ := Nat.exists_eq_add_of_le' (show 1 ≤ fuel by omega)
    obtain ⟨cx1, hunit, hnext⟩ := h.decodeUnit hmono
    obtain ⟨cx2, hrest⟩ := ih fuel hnext (by omega)
    have hlen : unitLen cx = 8 := by rw [← decodeUnit_length hunit, adChunkFrames_length]
    have hneed : 8 * (count + 1) - (adChunkFrames x k).length = 8 * count := by rw [adChunkFrames_length]; omega
    refine ⟨cx2, ?_⟩
    rw [decodeFrames, if_neg (by omega), hunit]
    dsimp only
    rw [hlen, if_pos (by omega), hneed, hrest, ← adChunkFrames_append]

/-- R131: the opened context of an AD stream whose body memory holds stands before chunk 0. -/
theorem openedCtx_atAdUnit {m : List Host.Cell} {base len : Word} {p : Preamble} {x : Nat → Frame}
    (hl : p.lossy = false)
    (hfits : 10 +
      ((adGroup (adPass1 p.stereo x (p.frames.toNat / 8) 0 Frame.zero)).flatMap adRunBytes).length ≤ len.toNat)
    (hbody : BytesAt m (base.toNat + 10)
      ((adGroup (adPass1 p.stereo x (p.frames.toNat / 8) 0 Frame.zero)).flatMap adRunBytes)) :
    (openedCtx m base len p).AtAdUnit m p.stereo x 0 (p.frames.toNat / 8) := by
  have hopened : openedCtx m base len p =
      { Ctx.closed with
        base := base, len := len, frames := p.frames, rate := p.rate, stereo := p.stereo,
        total := BitVec.ofNat 32 (totalFrames p), remaining := BitVec.ofNat 32 (totalFrames p),
        st := stateFor (BitVec.ofNat 32 (totalFrames p)) .idle, cursor := 10 } := by
    simp [openedCtx, Ctx.rewind, preambleChunks, hl, Ctx.closed, Config.preambleBytes]
  have hframes := p.frames.isLt
  rw [hopened]
  exact ⟨[], _, ⟨rfl, rfl, rfl, by omega, adGroup_run_length _, adGroup_chunks _, hfits, hbody⟩, rfl⟩

/-- Settles O35: the opened context stands before chunk 0, and the loop delivers the frames of every chunk. -/
theorem adRoundTripIsLossless : Obligations.AdRoundTripIsLossless := by
  intro m base len p x hl _ hmono _ hfits hbody
  obtain ⟨cx', hread⟩ := decodeFrames_adRuns (fun f hs => hmono hs f) (8 * (p.frames.toNat / 8))
    (openedCtx_atAdUnit hl hfits hbody) le_rfl
  refine ⟨cx', ?_⟩
  rw [readFrames_of_no_scratch (openedCtx_ovfLen m base len p), hread]
  simp

end Sys2Proof.Machine

/-! PROOFS. The completion of ENC_AD (R119, R159): the chunks it encodes, their types and payloads (R111-R116), and the
counters. -/

namespace Sys2Proof.Machine

/-! ### The chunks of the first pass (R119) -/

/-- R112-R116: chunk `k` of the source `x`, with the accumulator before it. -/
def adChunkOf (stereo : Bool) (x : Nat → Frame) (k : Nat) (acc : Frame) : AdChunk :=
  ⟨adClassify (k == 0) (adDeltas stereo acc (adChunkFrames x k)),
    adPayload stereo (adClassify (k == 0) (adDeltas stereo acc (adChunkFrames x k))) (adChunkFrames x k)
      (adDeltas stereo acc (adChunkFrames x k))⟩

theorem adPass1_succ (stereo : Bool) (x : Nat → Frame) (count k : Nat) (acc : Frame) :
    adPass1 stereo x (count + 1) k acc =
      adChunkOf stereo x k acc :: adPass1 stereo x count (k + 1) (x (8 * k + 7)) := rfl

/-- R112: past the first chunk of a pass, the accumulator is the last frame of the chunk before. -/
theorem adPass1_getElem? (stereo : Bool) (x : Nat → Frame) {count j : Nat} (hj : j < count) (k : Nat) (acc : Frame) :
    (adPass1 stereo x count k acc)[j]? =
      some (adChunkOf stereo x (k + j) (if j = 0 then acc else x (8 * (k + j) - 1))) := by
  induction count generalizing j k acc with
  | zero => omega
  | succ count ih =>
    rw [adPass1_succ]
    cases j with
    | zero => rfl
    | succ j =>
      rw [List.getElem?_cons_succ, ih (by omega), if_neg (Nat.succ_ne_zero j), Nat.add_right_comm k 1 j, Nat.add_assoc]
      rcases Nat.eq_zero_or_pos j with rfl | hpos
      · rfl
      · rw [if_neg hpos.ne']

/-- R111: frame `q` of a chunk. -/
theorem adChunkFrames_getElem? (x : Nat → Frame) (k : Nat) {q : Nat} (hq : q < 8) :
    (adChunkFrames x k)[q]? = some (x (8 * k + q)) := by
  simp [adChunkFrames, Config.adChunk, hq]

/-- R112: the frame before frame `q` of a chunk, when the accumulator is the last frame of the chunk before. -/
theorem adChunkFrames_before (x : Nat → Frame) (k : Nat) {q : Nat} (hq : q < 8) :
    (x (8 * k - 1) :: adChunkFrames x k)[q]? = some (x (8 * k + q - 1)) := by
  cases q with
  | zero => rfl
  | succ q => exact adChunkFrames_getElem? x k (by omega)

/-- R77: a sample of the source of ENC_AD. -/
theorem adSource_get {stereo : Bool} {ch : Nat} (h : ch < channels stereo) (m : List Host.Cell) (src f : Nat) :
    (adSource m stereo src f).get ch = readSample m (src + 2 * (channels stereo * f + ch)) := by
  rw [adSource, readFrame_get h]
  congr 1
  ring

/-- R114: the deltas of a chunk against the chunk before, by the number of their sample. -/
theorem adDeltas_chunk (stereo : Bool) (x : Nat → Frame) (k : Nat) :
    adDeltas stereo (x (8 * k - 1)) (adChunkFrames x k) = (List.range (8 * channels stereo)).map fun i =>
      ((x (8 * k + i / channels stereo)).get (i % channels stereo)).toInt -
        ((x (8 * k + i / channels stereo - 1)).get (i % channels stereo)).toInt := by
  have hlen : (adDeltas stereo (x (8 * k - 1)) (adChunkFrames x k)).length = 8 * channels stereo := by
    rw [adDeltas_length, adChunkFrames_length, Nat.mul_comm]
  refine List.ext_getElem? fun i => ?_
  rcases Nat.lt_or_ge i (8 * channels stereo) with hi | hi
  · have hq : i / channels stereo < 8 := Nat.div_lt_of_lt_mul (by rwa [Nat.mul_comm])
    have hdelta := adDeltas_getElem? (Nat.mod_lt i (channels_pos stereo)) (adChunkFrames_getElem? x k hq)
      (adChunkFrames_before x k hq)
    rw [Nat.div_add_mod] at hdelta
    simpa [hi] using hdelta
  · rw [List.getElem?_eq_none (by omega), List.getElem?_eq_none (by simpa using hi)]

/-- R115: the type of a chunk that is not the first, by its numbered deltas. -/
theorem adClassify_false_map_range (n : Nat) (δ : Nat → Int) :
    (adClassify false ((List.range n).map δ) = .small ∧ ∀ i, i < n → (δ i).natAbs ≤ 127) ∨
    (adClassify false ((List.range n).map δ) = .medium ∧ (∀ i, i < n → (δ i).natAbs ≤ 2047) ∧
      ∃ i, i < n ∧ 127 < (δ i).natAbs) ∨
    (adClassify false ((List.range n).map δ) = .full ∧ ∃ i, i < n ∧ 2047 < (δ i).natAbs) := by
  have hle (b : Nat) : maxAbsDelta ((List.range n).map δ) ≤ b ↔ ∀ i, i < n → (δ i).natAbs ≤ b := by
    simp [maxAbsDelta_le_iff]
  have hlt (b : Nat) : b < maxAbsDelta ((List.range n).map δ) ↔ ∃ i, i < n ∧ b < (δ i).natAbs := by
    simp [lt_maxAbsDelta_iff]
  rw [← hle, ← hle, ← hlt, ← hlt]
  rcases adClassify_false_cases ((List.range n).map δ) with ⟨h, htype⟩ | ⟨h, h', htype⟩ | ⟨h, htype⟩
  · exact .inl ⟨htype, h⟩
  · exact .inr (.inl ⟨htype, h', h⟩)
  · exact .inr (.inr ⟨htype, h⟩)

/-! ### The bytes of a payload (R116) -/

theorem leBytes_getElem? {n v i : Nat} (h : i < n) : (leBytes n v)[i]? = some (BitVec.ofNat 8 (v / 256 ^ i)) := by
  simp [leBytes, h]

/-- R90, R116: byte `i` of a Small payload. -/
theorem adPayload_small_getElem? (stereo : Bool) (fs : List Frame) {n i : Nat} (δ : Nat → Int) (hi : i < n) :
    (adPayload stereo .small fs ((List.range n).map δ))[i]? = some (BitVec.ofInt 8 (δ i)) := by
  simp [adPayload, hi]

/-- R91, R116: the three bytes of pair `g` of a Medium payload. -/
theorem adPayload_medium_getElem? (stereo : Bool) (fs : List Frame) {n g b : Nat} (δ : Nat → Int) (hg : g < n)
    (hb : b < 3) :
    (adPayload stereo .medium fs ((List.range (2 * n)).map δ))[3 * g + b]? =
      some (BitVec.ofNat 8 (mediumWord (δ (2 * g)) (δ (2 * g + 1)) / 256 ^ b)) := by
  have h0 : ((List.range (2 * n)).map δ)[2 * g]? = some (δ (2 * g)) := by simp [hg]
  have h1 : ((List.range (2 * n)).map δ)[2 * g + 1]? = some (δ (2 * g + 1)) := by
    simp [show 2 * g + 1 < 2 * n by omega]
  exact (mediumBytes_holdsAt h0 h1).getElem? (leBytes_getElem? hb)

/-- R77, R116: the two bytes of sample `i` of a Full payload. -/
theorem adPayload_full_getElem? (stereo : Bool) (x : Nat → Frame) (k : Nat) {i b : Nat} (ds : List Int)
    (hi : i < 8 * channels stereo) (hb : b < 2) :
    (adPayload stereo .full (adChunkFrames x k) ds)[2 * i + b]? =
      some (BitVec.ofNat 8
        (((x (8 * k + i / channels stereo)).get (i % channels stereo)).toNat / 256 ^ b)) := by
  have hq : i / channels stereo < 8 := Nat.div_lt_of_lt_mul (by rwa [Nat.mul_comm])
  have hsample := pcmBytes_holdsAt_sample (Nat.mod_lt i (channels_pos stereo)) (adChunkFrames_getElem? x k hq)
  rw [Nat.div_add_mod] at hsample
  exact hsample.getElem? (leBytes_getElem? hb)

/-! ### The counters (R159) -/

/-- R159: every chunk is of one of the three types. -/
theorem adCount_sum (cs : List AdChunk) : adCount .small cs + adCount .medium cs + adCount .full cs = cs.length := by
  induction cs with
  | nil => rfl
  | cons ch cs ih =>
    rw [adCount_cons, adCount_cons, adCount_cons, List.length_cons, ← ih]
    cases ch.type <;> simp <;> omega

/-- R117: a run has at least one chunk. -/
theorem adGroup_length_le (cs : List AdChunk) : (adGroup cs).length ≤ cs.length := by
  have hsum : cs.length = ((adGroup cs).map fun r => r.chunks.length).sum := by
    rw [← List.length_flatMap, adGroup_chunks]
  have hle := List.card_nsmul_le_sum ((adGroup cs).map fun r => r.chunks.length) 1 fun n hn => by
    obtain ⟨r, hr, rfl⟩ := List.mem_map.mp hn
    obtain ⟨h1, -⟩ := adGroup_run_length cs r hr
    simpa [AdRun.chunks] using h1
  rw [List.length_map, smul_eq_mul, Nat.mul_one] at hle
  omega

/-- R25: a number of at most F / 8 fits a register. -/
theorem toNat_ofNat_of_le {w : Word} {n : Nat} (h : n ≤ w.toNat / 8) : (BitVec.ofNat 32 n).toNat = n := by
  have := w.isLt
  rw [BitVec.toNat_ofNat]
  exact Nat.mod_eq_of_lt (by omega)

/-! ### ENC_AD completes (R119) -/

section Chunk

variable {stereo : Bool} {x : Nat → Frame} {k : Nat} {acc : Frame} {t : AdType}

/-- R115: chunk 0 is Full. -/
theorem adChunkOf_type_zero : (adChunkOf stereo x 0 acc).type = .full := rfl

theorem adChunkOf_type (hk : k ≠ 0) :
    (adChunkOf stereo x k acc).type = adClassify false (adDeltas stereo acc (adChunkFrames x k)) := by
  rw [adChunkOf, beq_false_of_ne hk]

/-- R115: a chunk that is not Full is not the first. -/
theorem ne_zero_of_adChunkOf_type (h : (adChunkOf stereo x k acc).type = t) (ht : t ≠ .full) : k ≠ 0 := by
  rintro rfl
  exact ht (h.symm.trans adChunkOf_type_zero)

theorem adChunkOf_payload (h : (adChunkOf stereo x k acc).type = t) :
    (adChunkOf stereo x k acc).payload =
      adPayload stereo t (adChunkFrames x k) (adDeltas stereo acc (adChunkFrames x k)) := by
  subst h
  rfl

theorem adChunkOf_payload_length (h : (adChunkOf stereo x k acc).type = t) :
    (adChunkOf stereo x k acc).payload.length = t.width * channels stereo := by
  rw [adChunkOf_payload h]
  exact adPayload_length stereo t (adChunkFrames_length x k) (by rw [adDeltas_length, adChunkFrames_length])

end Chunk

/-- R112, R119: chunk `k` of ENC_AD; past the first its accumulator is the last frame of the chunk before. -/
theorem encAdChunks_getElem? (stereo : Bool) (s : State) {k : Nat} (hk : k < s.arg2.toNat / 8) :
    ∃ acc, (k ≠ 0 → acc = adSource s.mem stereo s.arg0.toNat (8 * k - 1)) ∧
      (encAdChunks stereo s)[k]? = some (adChunkOf stereo (adSource s.mem stereo s.arg0.toNat) k acc) := by
  have hchunk :=
    adPass1_getElem? stereo (adSource s.mem stereo s.arg0.toNat) (count := adChunkCount s.arg2.toNat) hk 0 Frame.zero
  rw [Nat.zero_add] at hchunk
  exact ⟨_, fun hk0 => if_neg hk0, hchunk⟩

/-- R119: the checks of ENC_AD pass when each of its conditions holds. -/
theorem encAdCheck_passes {stereo : Bool} {s : State} (hf : s.arg2 ≠ 0) (hsrc : s.valid (encSource stereo s) = true)
    (hcap : (encAdBody stereo s).length ≤ s.arg3.toNat) (hdst : s.valid (encAdDest stereo s) = true)
    (hover : (encSource stereo s).overlaps (encAdDest stereo s) = false)
    (hopen : s.overlapsOpen (encAdDest stereo s) = false) : encAdCheck stereo s = .ok () := by
  rw [encAdCheck, if_neg hf, hsrc, if_neg (not_lt.mpr hcap), hdst, hover, hopen]
  rfl

/-- R111: m, as R119 writes it. -/
theorem adChunkCount_eq (frames : Nat) : adChunkCount frames = frames / 8 := rfl

/-- R119: the state after an ENC_AD whose checks pass. -/
theorem exec_encAd_of_passes {stereo : Bool} {s : State} (h : encAdCheck stereo s = .ok ()) :
    exec (.encAd stereo) s = .next { s with
      err := .ok, res0 := BitVec.ofNat 32 (encAdBody stereo s).length, res1 := BitVec.ofNat 32 (s.arg2.toNat / 8),
      diagSmall := BitVec.ofNat 32 (adCount .small (encAdChunks stereo s)),
      diagMedium := BitVec.ofNat 32 (adCount .medium (encAdChunks stereo s)),
      diagFull := BitVec.ofNat 32 (adCount .full (encAdChunks stereo s)),
      diagRuns := BitVec.ofNat 32 (encAdRuns stereo s).length,
      diagSat := BitVec.ofNat 32 (adSaturated (encAdRuns stereo s)),
      mem := writeBytes s.mem s.arg1.toNat (encAdBody stereo s) } := by
  rw [exec, execEncAd, h]
  simp [State.store, State.setRes0, State.setRes1, State.setAdDiag, State.setDiag, State.finish, adChunkCount_eq]

/-- Settles O33: the chunks one by one, then the state after the checks. -/
theorem encAdWritesTheBody : Obligations.EncAdWritesTheBody := by
  intro stereo s c x d hf hc hx hd hsrc hcap hdst hover hopen
  obtain rfl : c = channels stereo := hc
  have hchunks := encAdChunks_length stereo s
  refine ⟨rfl, hchunks, fun k hk => ?chunk, _, exec_encAd_of_passes (encAdCheck_passes hf hsrc hcap hdst hover hopen),
    rfl, ?state⟩
  case chunk =>
    obtain ⟨acc, hacc, hchunk⟩ := encAdChunks_getElem? stereo s hk
    have hsample (i f : Nat) : (adSource s.mem stereo s.arg0.toNat f).get (i % channels stereo) =
        x f (i % channels stereo) := (adSource_get (Nat.mod_lt i (channels_pos stereo)) ..).trans (hx ..).symm
    generalize adSource s.mem stereo s.arg0.toNat = src at hacc hchunk hsample
    have hdeltas (hk0 : k ≠ 0) :
        adDeltas stereo acc (adChunkFrames src k) = (List.range (8 * channels stereo)).map (d k) := by
      rw [hacc hk0, adDeltas_chunk]
      simp only [hsample, ← hd]
    refine ⟨_, hchunk, ?first, fun hk0 => ?type, fun ht => ⟨adChunkOf_payload_length ht, fun i hi => ?small⟩,
      fun ht => ⟨adChunkOf_payload_length ht, ?medium⟩, fun ht => ⟨adChunkOf_payload_length ht, fun i hi => ?full⟩⟩
    case first =>
      rintro rfl
      exact adChunkOf_type_zero
    case type =>
      rw [adChunkOf_type hk0, hdeltas hk0]
      exact adClassify_false_map_range _ _
    case small =>
      rw [adChunkOf_payload ht, hdeltas (ne_zero_of_adChunkOf_type ht (by decide))]
      exact adPayload_small_getElem? stereo _ (d k) hi
    case medium =>
      rintro g w hg rfl
      rw [adChunkOf_payload ht, hdeltas (ne_zero_of_adChunkOf_type ht (by decide)),
        show 8 * channels stereo = 2 * (4 * channels stereo) by ring]
      have hbyte (b : Nat) (hb : b < 3) := adPayload_medium_getElem? stereo (adChunkFrames src k) (d k) hg hb
      exact ⟨by simpa [mediumWord] using hbyte 0 (by decide), hbyte 1 (by decide), hbyte 2 (by decide)⟩
    case full =>
      rw [adChunkOf_payload ht, ← hsample]
      have hbyte (b : Nat) (hb : b < 2) :=
        adPayload_full_getElem? stereo src k (adDeltas stereo acc (adChunkFrames src k)) hi hb
      exact ⟨by simpa using hbyte 0 (by decide), hbyte 1 (by decide)⟩
  case state =>
    have hsum := adCount_sum (encAdChunks stereo s)
    have hruns : (encAdRuns stereo s).length ≤ s.arg2.toNat / 8 := hchunks ▸ adGroup_length_le _
    have hsat : adSaturated (encAdRuns stereo s) ≤ (encAdRuns stereo s).length := List.length_filter_le _ _
    have hsmall := toNat_ofNat_of_le (w := s.arg2) (n := adCount .small (encAdChunks stereo s)) (by omega)
    have hmedium := toNat_ofNat_of_le (w := s.arg2) (n := adCount .medium (encAdChunks stereo s)) (by omega)
    have hfull := toNat_ofNat_of_le (w := s.arg2) (n := adCount .full (encAdChunks stereo s)) (by omega)
    refine ⟨hsmall, hmedium, hfull, toNat_ofNat_of_le hruns, toNat_ofNat_of_le (hsat.trans hruns), ?_,
      readBytes_writeBytes _ _ _, fun a ha => readByte_writeBytes_outside _ _ _ _ ha⟩
    rw [hsmall, hmedium, hfull]
    omega

end Sys2Proof.Machine

/-! PROOFS. The AD run headers as instructions (R92, R122, log 3): the samples of the first chunk of a run (R90, R91,
R116, R123), a header that completes (R129, R134), and one that ends the read (R124, R135). -/

namespace Sys2Proof.Machine

/-! ### A run header and the read that waits for it -/

/-- R122: a run header that a read waits for ends the unit it heads. -/
theorem runHeader_of_awaited {s : State} {job : ReadJob} {cx : Ctx} (h : s.awaitsHeader = some (job, cx))
    (hs : cx.inSpace = true) (ty : Option AdType) (extra : Nat) :
    runHeader ty extra s = .next (s.endUnit job cx (advanceUnit (adHeaderUnit s.mem cx ty extra))) := by
  rw [runHeader, h]
  dsimp only
  rw [hs]
  rfl

section HeaderUnit

variable {m : List Host.Cell} {cx : Ctx} {t : AdType} {extra : Nat}

/-- R122: a run that heads the stream is Full, or the stream is malformed. -/
theorem adHeaderUnit_malformed (h0 : cx.unit = 0) (ht : t ≠ .full) :
    adHeaderUnit m cx (some t) extra = .error .malformed := if_pos ⟨h0, ht⟩

/-- R122: the header's checks passed, its unit is the chunk rule's. -/
theorem adHeaderUnit_of_allowed (h : cx.unit = 0 → t = .full) :
    adHeaderUnit m cx (some t) extra = adPayloadUnit m cx (cx.cursor.toNat + 1) t (extra + 1) :=
  if_neg (not_and_not_right.mpr h)

/-- R124: a payload that reaches past the stream region. -/
theorem adHeaderUnit_truncated (h : cx.unit = 0 → t = .full)
    (hlen : cx.len.toNat < cx.cursor.toNat + 1 + t.width * channels cx.stereo) :
    adHeaderUnit m cx (some t) extra = .error .truncated :=
  (adHeaderUnit_of_allowed h).trans (if_pos hlen)

/-- R122, R129: the first chunk of a run, and the context after it. -/
theorem adHeaderUnit_decodes (h : cx.unit = 0 → t = .full)
    (hlen : cx.cursor.toNat + 1 + t.width * channels cx.stereo ≤ cx.len.toNat) {fs : List Frame}
    (hfs : fs = adFrames m cx.stereo t (cx.base.toNat + cx.cursor.toNat + 1) cx.acc) :
    ∃ cx', advanceUnit (adHeaderUnit m cx (some t) extra) = .ok (fs, cx') ∧ cx' = { cx with
      acc := fs.getLastD cx.acc, cursor := BitVec.ofNat 32 (cx.cursor.toNat + 1 + t.width * channels cx.stereo),
      runType := t, runLeft := extra, unit := cx.unit + 1 } := by
  refine ⟨_, ?_, rfl⟩
  rw [adHeaderUnit_of_allowed h, adPayloadUnit, if_neg (not_lt.mpr hlen), hfs, Nat.add_assoc cx.base.toNat]
  rfl

end HeaderUnit

/-! ### The end of a read with an error (R135) -/

/-- R135: a read that meets a stream error faults its context, and changes no other context and no RES register. -/
theorem failRead_faults {s : State} {job : ReadJob} {cx : Ctx} (hcx : s.ctxs[job.ctx]? = some cx) (e : ErrCode) :
    ∃ t o, s.failRead job.ctx cx job.dst job.k e = t ∧ t.ctxs[job.ctx]? = some o ∧ o.st = .faulted ∧
      (∀ j, j ≠ job.ctx → t.ctxs[j]? = s.ctxs[j]?) ∧
      t = { s with err := e, ctxs := t.ctxs, mem := t.mem, reading := none, freeTick := s.freeTick + 1 } ∧
      ∀ a, a < job.dst ∨ job.dst + 2 * channels cx.stereo * job.k ≤ a → readByte t.mem a = readByte s.mem a := by
  obtain ⟨hc, -⟩ := List.getElem?_eq_some_iff.mp hcx
  exact ⟨_, _, rfl, s.setCtx_same job.ctx _ hc, rfl, fun j hj => s.setCtx_other job.ctx j _ hj, rfl,
    fun a ha => failRead_changesOnly s job.ctx cx job.dst job.k e a ha⟩

/-- Settles O37: the header's unit raises the error, and the read fails with it. -/
theorem malformedRunHeaderFaultsTheContext : Obligations.MalformedRunHeaderFaultsTheContext := by
  intro i extra s job cx c e hr hcx hs hl hrun hk hst hc hcase
  obtain rfl : c = channels cx.stereo := hc
  have hwait := State.awaitsHeader_eq hr hcx hl hrun hk hst
  have hunit : ∃ ty, exec i s = runHeader ty extra s ∧ adHeaderUnit s.mem cx ty extra = .error e := by
    rcases hcase with ⟨rfl, rfl | ⟨h0, rfl | rfl⟩⟩ | ⟨rfl, ⟨rfl, h0, hlen⟩ | ⟨rfl, h0, hlen⟩ | ⟨rfl, hlen⟩⟩
    · exact ⟨none, rfl, rfl⟩
    · exact ⟨some .small, rfl, adHeaderUnit_malformed h0 (by decide)⟩
    · exact ⟨some .medium, rfl, adHeaderUnit_malformed h0 (by decide)⟩
    · exact ⟨some .small, rfl, adHeaderUnit_truncated (absurd · h0) hlen⟩
    · exact ⟨some .medium, rfl, adHeaderUnit_truncated (absurd · h0) hlen⟩
    · exact ⟨some .full, rfl, adHeaderUnit_truncated (fun _ => rfl) hlen⟩
  obtain ⟨ty, hexec, herror⟩ := hunit
  obtain ⟨t, o, ht, hafter⟩ := failRead_faults hcx e
  refine ⟨t, o, ?_, hafter⟩
  rw [hexec, runHeader_of_awaited hwait hs, herror, ← ht]
  rfl

/-! ### The samples of a chunk (R90, R91, R116, R123) -/

/-- R48: the value of 2 bytes. -/
theorem readNat_two (m : List Host.Cell) (a : Nat) :
    readNat m a 2 = (readByte m a).toNat + 256 * (readByte m (a + 1)).toNat := by
  simp [readNat, readBytes, leNat, List.range_succ]

/-- R48: the value of 3 bytes. -/
theorem readNat_three (m : List Host.Cell) (a : Nat) :
    readNat m a 3 =
      (readByte m a).toNat + 256 * (readByte m (a + 1)).toNat + 65536 * (readByte m (a + 2)).toNat := by
  simp [readNat, readBytes, leNat, List.range_succ]
  ring

/-- R77: a sample is its two bytes, low byte first. -/
theorem readSample_toNat (m : List Host.Cell) (a : Nat) :
    (readSample m a).toNat = (readByte m a).toNat + 256 * (readByte m (a + 1)).toNat := by
  have hlt := readNat_lt m a 2
  rw [readSample, BitVec.toNat_ofNat, Nat.mod_eq_of_lt (by simpa using hlt), readNat_two]

/-- The number of a sample of a chunk is less than 8·c. -/
theorem sampleNumber_lt {c q ch : Nat} (hq : q < 8) (hch : ch < c) : c * q + ch < 8 * c :=
  calc c * q + ch < c * (q + 1) := by rw [Nat.mul_succ]; omega
    _ ≤ c * 8 := Nat.mul_le_mul_left c hq
    _ = 8 * c := Nat.mul_comm c 8

section Samples

variable {m : List Host.Cell} {stereo : Bool} {a q ch : Nat} {acc before f : Frame}

/-- R90, R123: a Small payload byte is the delta to the sample before. -/
theorem adFrames_small_get (hq : q < 8) (hch : ch < channels stereo)
    (hf : (adFrames m stereo .small a acc)[q]? = some f)
    (hb : (acc :: adFrames m stereo .small a acc)[q]? = some before) :
    f.get ch = wrap16 ((before.get ch).toInt + (readByte m (a + (channels stereo * q + ch))).toInt) := by
  have hlen : (smallDeltas m (channels stereo) a).length = channels stereo * 8 := by
    rw [smallDeltas_length, Nat.mul_comm]
  exact integrate_getElem? hq hch hlen hf hb (smallDeltas_getElem? (sampleNumber_lt hq hch))

/-- R91, R123: half `j mod 2` of word `j div 2` of a Medium payload is the delta to the sample before, j = c·q + ch. -/
theorem adFrames_medium_get (hq : q < 8) (hch : ch < channels stereo) {j : Nat} (hj : j = channels stereo * q + ch)
    (hf : (adFrames m stereo .medium a acc)[q]? = some f)
    (hb : (acc :: adFrames m stereo .medium a acc)[q]? = some before) :
    f.get ch = wrap16 ((before.get ch).toInt + sext12 (readNat m (a + 3 * (j / 2)) 3 / 4096 ^ (j % 2))) := by
  have hlen : (mediumDeltas m (channels stereo) a).length = channels stereo * 8 := by
    rw [mediumDeltas_length, Nat.mul_comm]
  subst hj
  exact integrate_getElem? hq hch hlen hf hb (mediumDeltas_getElem? (sampleNumber_lt hq hch))

/-- R77, R116: a Full payload holds the samples. -/
theorem adFrames_full_get (hq : q < 8) (hch : ch < channels stereo)
    (hf : (adFrames m stereo .full a acc)[q]? = some f) :
    f.get ch = readSample m (a + 2 * (channels stereo * q + ch)) := by
  have hframe : readFrame m stereo (a + 2 * channels stereo * q) = f := by
    simpa [adFrames, Config.adChunk, hq] using hf
  rw [← hframe, readFrame_get hch]
  congr 1
  ring

end Samples

/-! ### A unit delivered (R134) -/

section DeliverUnit

variable {s : State} {job : ReadJob} {fs : List Frame} {cx : Ctx}

/-- R134: the context after a pass of the loop that decoded `fs` and left `cx`: what the read does not need goes to
scratch, and the counters advance when the read ends. -/
def Ctx.afterPass (cx : Ctx) (job : ReadJob) (fs : List Frame) : Ctx :=
  if job.written + fs.length < job.k then cx
  else (if job.k - job.written < fs.length then cx.stash fs (job.k - job.written) else cx).account job.k

theorem Ctx.afterPass_of_lt (h : job.written + fs.length < job.k) : cx.afterPass job fs = cx := if_pos h

/-- R134: a pass leaves what decoding the unit left in these fields. -/
theorem Ctx.afterPass_decoded (cx : Ctx) (job : ReadJob) (fs : List Frame) :
    (cx.afterPass job fs).acc = cx.acc ∧ (cx.afterPass job fs).cursor = cx.cursor ∧
      (cx.afterPass job fs).runType = cx.runType ∧ (cx.afterPass job fs).runLeft = cx.runLeft ∧
      (cx.afterPass job fs).unit = cx.unit := by
  unfold Ctx.afterPass
  split
  · simp
  · split <;> simp [Ctx.account, Ctx.stash]

/-- R134: the counters, the state and the scratch buffer after the last pass of a read. -/
theorem Ctx.afterPass_of_le (hk : job.written < job.k) (h : job.k ≤ job.written + fs.length) :
    (cx.afterPass job fs).remaining = cx.remaining - BitVec.ofNat 32 job.k ∧
      (cx.afterPass job fs).pos = cx.pos + BitVec.ofNat 32 job.k ∧
      (cx.afterPass job fs).st = stateFor (cx.remaining - BitVec.ofNat 32 job.k) .reading ∧
      (job.k < job.written + fs.length →
        (cx.afterPass job fs).ovfLen = fs.length ∧ (cx.afterPass job fs).ovfOff = job.k - job.written ∧
        (cx.afterPass job fs).ovf.take fs.length = fs) := by
  have hk0 : job.k ≠ 0 := by omega
  rw [Ctx.afterPass, if_neg (not_lt.mpr h)]
  split
  · simp [Ctx.account, Ctx.stash, hk0]
  · exact ⟨rfl, rfl, if_neg hk0, fun hlt => by omega⟩

/-- R134: what a pass writes to memory. -/
theorem deliverUnit_mem : (s.deliverUnit job fs cx).mem =
    writeBytes s.mem (job.dst + 2 * channels cx.stereo * job.written)
      (pcmBytes cx.stereo (fs.take (job.k - job.written))) := by
  unfold State.deliverUnit
  dsimp only
  split <;> rfl

/-- R134: a pass that leaves frames to write. -/
theorem deliverUnit_of_lt (h : job.written + fs.length < job.k) :
    s.deliverUnit job fs cx = { s with
      ctxs := s.ctxs.set job.ctx (cx.afterPass job fs), mem := (s.deliverUnit job fs cx).mem,
      reading := some { job with written := job.written + fs.length } } := by
  have hout : fs.take (job.k - job.written) = fs := List.take_of_length_le (by omega)
  have hkeep : ¬ job.k - job.written < fs.length := by omega
  rw [deliverUnit_mem, State.deliverUnit, Ctx.afterPass_of_lt h]
  rw [hout, if_pos h, if_neg hkeep]
  rfl

/-- R134: the last pass of a read. -/
theorem deliverUnit_of_le (hk : job.written < job.k) (h : job.k ≤ job.written + fs.length) :
    s.deliverUnit job fs cx = { s with
      ctxs := s.ctxs.set job.ctx (cx.afterPass job fs), mem := (s.deliverUnit job fs cx).mem, reading := none,
      err := .ok, res0 := BitVec.ofNat 32 job.k } := by
  have hout : ¬ job.written + (fs.take (job.k - job.written)).length < job.k := by rw [List.length_take]; omega
  rw [deliverUnit_mem, State.deliverUnit, Ctx.afterPass, if_neg (not_lt.mpr h)]
  rw [if_neg hout]
  simp only [State.endRead, State.setCtx, State.setReading, State.setRes0, State.store, State.finish]

theorem deliverUnit_ctxs (hk : job.written < job.k) :
    (s.deliverUnit job fs cx).ctxs = s.ctxs.set job.ctx (cx.afterPass job fs) := by
  rcases Nat.lt_or_ge (job.written + fs.length) job.k with h | h
  · rw [deliverUnit_of_lt h]
  · rw [deliverUnit_of_le hk h]

/-- R77, R134: a delivered sample in the destination. -/
theorem readSample_deliverUnit {q ch : Nat} {f : Frame} (hq : job.written + q < job.k) (hch : ch < channels cx.stereo)
    (hf : fs[q]? = some f) :
    readSample (s.deliverUnit job fs cx).mem (job.dst + 2 * (channels cx.stereo * (job.written + q) + ch)) =
      f.get ch := by
  have hout : (fs.take (job.k - job.written))[q]? = some f := by
    rw [List.getElem?_take_of_lt (by omega), hf]
  have hread := readSample_writeBytes_holdsAt (pcmBytes_holdsAt_sample hch hout) s.mem
    (job.dst + 2 * channels cx.stereo * job.written)
  rw [deliverUnit_mem, ← hread]
  congr 1
  ring

/-- R134: a pass changes no byte but those of the frames it delivers. -/
theorem readByte_deliverUnit {a : Nat} (hk : job.written < job.k)
    (h : a < job.dst + 2 * channels cx.stereo * job.written ∨
      job.dst + 2 * channels cx.stereo * min (job.written + fs.length) job.k ≤ a) :
    readByte (s.deliverUnit job fs cx).mem a = readByte s.mem a := by
  have hend : job.written + min (job.k - job.written) fs.length = min (job.written + fs.length) job.k := by omega
  rw [deliverUnit_mem, readByte_writeBytes_outside]
  rwa [pcmBytes_length, List.length_take, Nat.add_assoc, ← Nat.mul_add, hend]

end DeliverUnit

/-- R122, R123: the frame before frame `q` of a chunk: the accumulator, or the frame just decoded. -/
theorem getElem?_cons_of_before {acc before : Frame} {fs : List Frame} {q : Nat}
    (h : (q = 0 ∧ before = acc) ∨ ∃ r, q = r + 1 ∧ fs[r]? = some before) : (acc :: fs)[q]? = some before := by
  rcases h with ⟨rfl, rfl⟩ | ⟨r, rfl, hr⟩
  · rfl
  · exact hr

/-- Settles O36: the samples by the type of the chunk, then the pass of the loop that delivers it. -/
theorem runHeaderDecodesItsFirstChunk : Obligations.RunHeaderDecodesItsFirstChunk := by
  intro i ty extra s job cx c size fs hi hc hr hcx hs hl hrun hk hst hfull hfits hfs
  obtain rfl : c = channels cx.stereo := hc
  obtain ⟨hexec, rfl⟩ : exec i s = runHeader (some ty) extra s ∧ size = ty.width * channels cx.stereo := by
    rcases hi with ⟨rfl, rfl, rfl⟩ | ⟨rfl, rfl, rfl⟩ | ⟨rfl, rfl, rfl⟩ <;> exact ⟨rfl, rfl⟩
  refine ⟨?samples, ?pass⟩
  case samples =>
    rintro q ch j p f before hq hch hj rfl hf hbefore
    have hb := getElem?_cons_of_before hbefore
    rw [hfs] at hf hb
    refine ⟨?_, ?_, ?_⟩ <;> rintro rfl
    · rw [hj]
      exact adFrames_small_get hq hch hf hb
    · rw [← readNat_three]
      exact adFrames_medium_get hq hch hj hf hb
    · rw [adFrames_full_get hq hch hf, readSample_toNat, hj]
  case pass =>
    have h8 : fs.length = 8 := by rw [hfs, adFrames_length]
    obtain ⟨cx1, hunit, hcx1⟩ := adHeaderUnit_decodes (extra := extra) hfull hfits hfs
    have hstereo : channels cx.stereo = channels cx1.stereo := by rw [hcx1]
    have hnext : exec i s = .next (s.deliverUnit job fs cx1) := by
      rw [hexec, runHeader_of_awaited (State.awaitsHeader_eq hr hcx hl hrun hk hst) hs, hunit]
      rfl
    obtain ⟨hc, -⟩ := List.getElem?_eq_some_iff.mp hcx
    have hctxs : (s.deliverUnit job fs cx1).ctxs = s.ctxs.set job.ctx (cx1.afterPass job fs) := deliverUnit_ctxs hk
    obtain ⟨hacc, hcursor, htype, hleft, hu⟩ := Ctx.afterPass_decoded cx1 job fs
    have hlen := cx.len.isLt
    refine ⟨_, cx1.afterPass job fs, hnext, h8, ?context, fun j hj => ?others, hacc.trans (by rw [hcx1]), ?cursor,
      htype.trans (by rw [hcx1]), hleft.trans (by rw [hcx1]), hu.trans (by rw [hcx1]),
      fun q ch f _ hq hch hf => ?sample, fun a ha => ?frame, fun hlt => ?goesOn, fun hle => ?ends⟩
    case context => rw [hctxs, List.getElem?_set_self hc]
    case others => rw [hctxs, List.getElem?_set_ne hj.symm]
    case cursor =>
      rw [hcursor, hcx1]
      exact (BitVec.toNat_ofNat _ _).trans (Nat.mod_eq_of_lt (by omega))
    case sample =>
      rw [hstereo] at hch ⊢
      exact readSample_deliverUnit hq hch hf
    case frame =>
      rw [hstereo, ← h8] at ha
      exact readByte_deliverUnit hk ha
    case goesOn =>
      rw [← h8] at hlt
      refine ⟨?_, ?_, ?_, ?_, ?_, ?_⟩
      iterate 5 rw [Ctx.afterPass_of_lt hlt, hcx1]
      rw [hctxs, ← h8]
      exact deliverUnit_of_lt hlt
    case ends =>
      rw [← h8] at hle
      obtain ⟨hremaining, hpos, hstate, hscratch⟩ := Ctx.afterPass_of_le (cx := cx1) hk hle
      rw [h8] at hscratch
      refine ⟨hremaining.trans (by rw [hcx1]), hpos.trans (by rw [hcx1]), ?_, hscratch, ?_⟩
      · rw [hstate, hremaining]
        rfl
      · rw [hctxs]
        exact deliverUnit_of_le hk hle

end Sys2Proof.Machine

/-! PROOFS. Reads in parts (R134, R136): a read that scratch can serve, the loop of DEC_READ from one unit to the next,
and the frames of two reads as those of one. -/

namespace Sys2Proof.Machine

/-! ### What a read delivers -/

/-- R134: the frames of an answer, or its error, without the context. -/
def delivered : Except ErrCode (List Frame × Ctx) → Except ErrCode (List Frame)
  | .error e => .error e
  | .ok (fs, _) => .ok fs

/-- R134: an answer whose frames follow the frames `fs`. -/
def prepend (fs : List Frame) : Except ErrCode (List Frame × Ctx) → Except ErrCode (List Frame × Ctx)
  | .error e => .error e
  | .ok (rest, cx) => .ok (fs ++ rest, cx)

/-- R136: an answer, and then a read of `b` frames from the context it leaves. -/
def thenRead (m : List Host.Cell) (b : Nat) : Except ErrCode (List Frame × Ctx) → Except ErrCode (List Frame × Ctx)
  | .error e => .error e
  | .ok (fs, cx) => prepend fs (readFrames m cx b)

section Answers

variable {r r' : Except ErrCode (List Frame × Ctx)}

theorem delivered_eq_ok {fs : List Frame} (h : delivered r = .ok fs) : ∃ cx, r = .ok (fs, cx) := by
  match r with
  | .ok (gs, cx) =>
    obtain rfl : gs = fs := by simpa [delivered] using h
    exact ⟨cx, rfl⟩

theorem delivered_prepend_congr (fs : List Frame) (h : delivered r = delivered r') :
    delivered (prepend fs r) = delivered (prepend fs r') := by
  match r, r' with
  | .error _, .error _ => exact h
  | .ok _, .ok _ => simpa [delivered, prepend] using h
  | .error _, .ok _ | .ok _, .error _ => simp [delivered] at h

theorem prepend_nil (r : Except ErrCode (List Frame × Ctx)) : prepend [] r = r := by
  match r with
  | .error _ | .ok _ => rfl

theorem prepend_append (fs gs : List Frame) (r : Except ErrCode (List Frame × Ctx)) :
    prepend (fs ++ gs) r = prepend fs (prepend gs r) := by
  match r with
  | .error _ => rfl
  | .ok _ => simp [prepend]

theorem prepend_eq_ok {fs gs : List Frame} {cx : Ctx} (h : prepend fs r = .ok (gs, cx)) :
    ∃ rest, r = .ok (rest, cx) ∧ gs = fs ++ rest := by
  match r with
  | .ok (rest, cx') =>
    obtain ⟨rfl, rfl⟩ : fs ++ rest = gs ∧ cx' = cx := by simpa [prepend] using h
    exact ⟨rest, rfl, rfl⟩

theorem thenRead_eq_ok {m : List Host.Cell} {b : Nat} {gs : List Frame} {cx : Ctx} (h : thenRead m b r = .ok (gs, cx)) :
    ∃ fs cx', r = .ok (fs, cx') ∧ prepend fs (readFrames m cx' b) = .ok (gs, cx) := by
  match r with
  | .ok (fs, cx') => exact ⟨fs, cx', rfl, h⟩

theorem thenRead_prepend (m : List Host.Cell) (b : Nat) (fs : List Frame) (r : Except ErrCode (List Frame × Ctx)) :
    thenRead m b (prepend fs r) = prepend fs (thenRead m b r) := by
  match r with
  | .error _ => rfl
  | .ok _ => exact prepend_append ..

end Answers

/-! ### The loop of DEC_READ, unit by unit (R134) -/

/-- R134: the loop with as much fuel as the frames it needs. -/
def nextFrames (m : List Host.Cell) (cx : Ctx) (need : Nat) : Except ErrCode (List Frame × Ctx) :=
  decodeFrames m need cx need

section Loop

variable {m : List Host.Cell} {cx cx' : Ctx} {fs : List Frame} {need : Nat}

/-- R134: each unit has at least one frame, so fuel beyond the frames needed changes nothing. -/
theorem decodeFrames_fuel {fuel₁ fuel₂ : Nat} (h₁ : need ≤ fuel₁) (h₂ : need ≤ fuel₂) :
    decodeFrames m fuel₁ cx need = decodeFrames m fuel₂ cx need := by
  induction fuel₁ generalizing fuel₂ cx need with
  | zero =>
    obtain rfl : need = 0 := Nat.le_zero.mp h₁
    cases fuel₂ <;> simp [decodeFrames]
  | succ fuel₁ ih =>
    cases fuel₂ with
    | zero =>
      obtain rfl : need = 0 := Nat.le_zero.mp h₂
      simp [decodeFrames]
    | succ fuel₂ =>
      rw [decodeFrames, decodeFrames]
      cases hu : decodeUnit m cx with
      | error e => rfl
      | ok p =>
        have hpos := decodeUnit_length hu ▸ unitLen_pos cx
        dsimp only
        rw [ih (fuel₂ := fuel₂) (by omega) (by omega)]

@[simp] theorem nextFrames_zero (m : List Host.Cell) (cx : Ctx) : nextFrames m cx 0 = .ok ([], cx) := rfl

/-- R135: a unit that raises an error ends the loop. -/
theorem nextFrames_error {e : ErrCode} (hpos : 0 < need) (hu : decodeUnit m cx = .error e) :
    nextFrames m cx need = .error e := by
  obtain ⟨n, rfl⟩ := Nat.exists_eq_succ_of_ne_zero hpos.ne'
  rw [nextFrames, decodeFrames, if_neg hpos.ne', hu]

/-- R134, branch 2: a unit that is needed whole. -/
theorem nextFrames_whole (hu : decodeUnit m cx = .ok (fs, cx')) (h : fs.length ≤ need) :
    nextFrames m cx need = prepend fs (nextFrames m cx' (need - fs.length)) := by
  have hlen := decodeUnit_length hu
  have hpos := unitLen_pos cx
  obtain ⟨n, rfl⟩ := Nat.exists_eq_succ_of_ne_zero (show need ≠ 0 by omega)
  rw [nextFrames, decodeFrames, if_neg (Nat.succ_ne_zero n), hu]
  dsimp only
  rw [if_pos (hlen ▸ h), decodeFrames_fuel (fuel₂ := n + 1 - fs.length) (by omega) le_rfl]
  rfl

/-- R134, branch 3: a unit of which a part is needed. -/
theorem nextFrames_part (hu : decodeUnit m cx = .ok (fs, cx')) (hpos : 0 < need) (h : need < fs.length) :
    nextFrames m cx need = .ok (fs.take need, cx'.stash fs need) := by
  have hlen := decodeUnit_length hu
  obtain ⟨n, rfl⟩ := Nat.exists_eq_succ_of_ne_zero hpos.ne'
  rw [nextFrames, decodeFrames, if_neg hpos.ne', hu]
  dsimp only
  rw [if_neg (by omega)]

end Loop

/-! ### Decoding does not see the scratch buffer (R37, R129) -/

/-- R37: a context with another scratch buffer. -/
def Ctx.withScratch (cx : Ctx) (ovf : List Frame) (len off : Nat) : Ctx :=
  { cx with ovf := ovf, ovfLen := len, ovfOff := off }

/-- R129: an answer whose context has another scratch buffer. -/
def answerWithScratch (ovf : List Frame) (len off : Nat) :
    Except ErrCode (List Frame × Ctx) → Except ErrCode (List Frame × Ctx) :=
  Except.map fun p => (p.1, p.2.withScratch ovf len off)

section Scratch

variable {m : List Host.Cell} {cx : Ctx} (ovf : List Frame) (len off : Nat)

theorem adPayloadUnit_withScratch (cur : Nat) (t : AdType) (left : Nat) :
    adPayloadUnit m (cx.withScratch ovf len off) cur t left =
      answerWithScratch ovf len off (adPayloadUnit m cx cur t left) := by
  unfold adPayloadUnit
  dsimp only
  rw [apply_ite (answerWithScratch ovf len off)]
  rfl

theorem adHeaderUnit_withScratch (t : Option AdType) (extra : Nat) :
    adHeaderUnit m (cx.withScratch ovf len off) t extra =
      answerWithScratch ovf len off (adHeaderUnit m cx t extra) := by
  cases t with
  | none => rfl
  | some t =>
    unfold adHeaderUnit
    dsimp only
    rw [apply_ite (answerWithScratch ovf len off), ← adPayloadUnit_withScratch]
    rfl

theorem adDecodeUnit_withScratch :
    adDecodeUnit m (cx.withScratch ovf len off) = answerWithScratch ovf len off (adDecodeUnit m cx) := by
  have hfetch : fetchRunHeader m (cx.withScratch ovf len off) = fetchRunHeader m cx := rfl
  unfold adDecodeUnit
  rw [apply_ite (answerWithScratch ovf len off), ← adPayloadUnit_withScratch, hfetch]
  cases fetchRunHeader m cx with
  | none => rfl
  | some h =>
    dsimp only
    rw [← adHeaderUnit_withScratch]
    rfl

theorem frDecodeUnit_withScratch :
    frDecodeUnit m (cx.withScratch ovf len off) = answerWithScratch ovf len off (frDecodeUnit m cx) := by
  unfold frDecodeUnit
  dsimp only
  rw [apply_ite (answerWithScratch ovf len off), apply_ite (answerWithScratch ovf len off)]
  rfl

theorem decodeUnit_withScratch :
    decodeUnit m (cx.withScratch ovf len off) = answerWithScratch ovf len off (decodeUnit m cx) := by
  have hadvance (r : Except ErrCode (List Frame × Ctx)) :
      advanceUnit (answerWithScratch ovf len off r) = answerWithScratch ovf len off (advanceUnit r) := by
    cases r <;> rfl
  unfold decodeUnit
  rw [← hadvance, apply_ite (answerWithScratch ovf len off), ← adDecodeUnit_withScratch, ← frDecodeUnit_withScratch]
  rfl
/-- R129: the frames of the loop are the same whatever the scratch buffer holds. -/
theorem delivered_nextFrames_withScratch (need : Nat) :
    delivered (nextFrames m (cx.withScratch ovf len off) need) = delivered (nextFrames m cx need) := by
  induction need using Nat.strong_induction_on generalizing cx with
  | _ need ih =>
    rcases Nat.eq_zero_or_pos need with rfl | hpos
    · rfl
    have hscratch := decodeUnit_withScratch (m := m) (cx := cx) ovf len off
    cases hu : decodeUnit m cx with
    | error e =>
      rw [hu] at hscratch
      rw [nextFrames_error hpos hu, nextFrames_error hpos hscratch]
    | ok p =>
      obtain ⟨fs, cx'⟩ := p
      rw [hu] at hscratch
      have hunit := decodeUnit_length hu ▸ unitLen_pos cx
      rcases Nat.lt_or_ge need fs.length with hlt | hle
      · rw [nextFrames_part hu hpos hlt, nextFrames_part hscratch hpos hlt]
        rfl
      · have hless : need - fs.length < need := by omega
        rw [nextFrames_whole hu hle, nextFrames_whole hscratch hle]
        exact delivered_prepend_congr fs (ih _ hless)

end Scratch

/-! ### Two reads (R136) -/

/-- R37: the frames in scratch that are still to be delivered. -/
def Ctx.held (cx : Ctx) : Nat := cx.ovfLen - cx.ovfOff

/-- R134, branch 1: a context after `k` more frames of its scratch buffer. -/
def Ctx.skip (cx : Ctx) (k : Nat) : Ctx := { cx with ovfOff := cx.ovfOff + k }

section Split

variable {m : List Host.Cell} {cx cx' : Ctx} {fs : List Frame} {a : Nat}

/-- R134: a read is what scratch holds, then the loop. -/
theorem readFrames_eq (m : List Host.Cell) (cx : Ctx) (k : Nat) :
    readFrames m cx k = prepend ((cx.ovf.drop cx.ovfOff).take (min k cx.held))
      (nextFrames m (cx.skip (min k cx.held)) (k - min k cx.held)) := by
  have hloop : decodeFrames m (k - drainCount cx k) { cx with ovfOff := cx.ovfOff + drainCount cx k }
      (k - drainCount cx k) = nextFrames m (cx.skip (min k cx.held)) (k - min k cx.held) := rfl
  rw [readFrames, hloop]
  cases nextFrames m (cx.skip (min k cx.held)) (k - min k cx.held) <;> rfl

/-- R134: with nothing held in scratch, a read is the loop. -/
theorem readFrames_of_held_eq_zero (h : cx.held = 0) (k : Nat) : readFrames m cx k = nextFrames m cx k := by
  rw [readFrames_eq, h, Nat.min_zero, List.take_zero, prepend_nil]
  rfl

/-- R134: a read that scratch can serve. -/
theorem readFrames_of_le_held (h : a ≤ cx.held) :
    readFrames m cx a = .ok ((cx.ovf.drop cx.ovfOff).take a, cx.skip a) := by
  rw [readFrames_eq, Nat.min_eq_left h, Nat.sub_self, nextFrames_zero, prepend, List.append_nil]

/-- R136: a read whose first part scratch can serve. -/
theorem readFrames_split_held (h : a ≤ cx.held) (b : Nat) :
    readFrames m cx (a + b) = thenRead m b (readFrames m cx a) := by
  have hheld : (cx.skip a).held = cx.held - a := (Nat.sub_sub ..).symm
  have hmin : min (a + b) cx.held = a + min b (cx.held - a) := by omega
  have hskip : (cx.skip a).skip (min b (cx.held - a)) = cx.skip (a + min b (cx.held - a)) := by
    simp [Ctx.skip, Nat.add_assoc]
  have hovf : (cx.skip a).ovf.drop (cx.skip a).ovfOff = (cx.ovf.drop cx.ovfOff).drop a := (List.drop_drop ..).symm
  have hneed : a + b - (a + min b (cx.held - a)) = b - min b (cx.held - a) := by omega
  rw [readFrames_of_le_held h, thenRead, readFrames_eq m (cx.skip a), hheld, hskip, hovf, readFrames_eq m cx, hmin,
    hneed, List.take_add, prepend_append]

/-- R134, branch 3: a unit of which a part is needed is read from scratch. -/
theorem nextFrames_eq_readFrames_stash (hu : decodeUnit m cx = .ok (fs, cx')) (hpos : 0 < a) (hlt : a < fs.length) :
    nextFrames m cx a = readFrames m (cx'.stash fs 0) a := by
  have htake : (fs ++ cx'.ovf.drop fs.length).take a = fs.take a := List.take_append_of_le_length hlt.le
  have hstash : (cx'.stash fs 0).skip a = cx'.stash fs a := by simp [Ctx.skip, Ctx.stash]
  rw [nextFrames_part hu hpos hlt, readFrames_of_le_held hlt.le, hstash, ← htake]
  rfl

/-- R134: the loop delivers what a read delivers that finds the next unit in scratch. -/
theorem delivered_nextFrames_eq_readFrames_stash (hu : decodeUnit m cx = .ok (fs, cx')) (hpos : 0 < a) :
    delivered (nextFrames m cx a) = delivered (readFrames m (cx'.stash fs 0) a) := by
  rcases Nat.lt_or_ge a fs.length with hlt | hle
  · rw [nextFrames_eq_readFrames_stash hu hpos hlt]
  · have hheld : min a (cx'.stash fs 0).held = fs.length := Nat.min_eq_right hle
    have htake : ((cx'.stash fs 0).ovf.drop (cx'.stash fs 0).ovfOff).take fs.length = fs := List.take_left' rfl
    rw [nextFrames_whole hu hle, readFrames_eq, hheld, htake]
    exact delivered_prepend_congr fs (delivered_nextFrames_withScratch _ _ _ _).symm

/-- R136: the loop, with nothing held in scratch, split after `a` frames. -/
theorem delivered_nextFrames_split (hheld : cx.held = 0) (b : Nat) :
    delivered (nextFrames m cx (a + b)) = delivered (thenRead m b (nextFrames m cx a)) := by
  induction a using Nat.strong_induction_on generalizing cx with
  | _ a ih =>
    rcases Nat.eq_zero_or_pos a with rfl | hpos
    · rw [Nat.zero_add, nextFrames_zero, thenRead, prepend_nil, readFrames_of_held_eq_zero hheld]
    cases hu : decodeUnit m cx with
    | error e =>
      rw [nextFrames_error hpos hu, nextFrames_error (Nat.add_pos_left hpos b) hu]
      rfl
    | ok p =>
      obtain ⟨fs, cx'⟩ := p
      rcases Nat.lt_or_ge a fs.length with hlt | hle
      · rw [delivered_nextFrames_eq_readFrames_stash hu (Nat.add_pos_left hpos b), readFrames_split_held hlt.le,
          nextFrames_eq_readFrames_stash hu hpos hlt]
      · have hunit := decodeUnit_length hu ▸ unitLen_pos cx
        have hless : a - fs.length < a := by omega
        have hheld' : cx'.held = 0 := by
          obtain ⟨-, -, -, hlen, hoff⟩ := decodeUnit_samePlace hu
          rw [Ctx.held, hlen, hoff]
          exact hheld
        rw [nextFrames_whole hu hle, nextFrames_whole hu (hle.trans (Nat.le_add_right a b)), thenRead_prepend,
          Nat.sub_add_comm hle]
        exact delivered_prepend_congr fs (ih _ hless hheld')

/-- R136: two reads deliver what one read of both counts delivers, or end with the same error. -/
theorem delivered_readFrames_split (m : List Host.Cell) (cx : Ctx) (a b : Nat) :
    delivered (readFrames m cx (a + b)) = delivered (thenRead m b (readFrames m cx a)) := by
  rcases Nat.le_total a cx.held with hle | hge
  · rw [readFrames_split_held hle]
  · have hheld : (cx.skip cx.held).held = 0 := by
      unfold Ctx.held Ctx.skip
      dsimp only
      omega
    rw [readFrames_eq m cx, readFrames_eq m cx, Nat.min_eq_right hge,
      Nat.min_eq_right (hge.trans (Nat.le_add_right a b)), thenRead_prepend, Nat.sub_add_comm hge]
    exact delivered_prepend_congr _ (delivered_nextFrames_split hheld b)

end Split

/-- Settles O44: one read delivers what the two deliver, with no condition on the scratch buffer. -/
theorem splitReadsDeliverTheSameFrames : Obligations.SplitReadsDeliverTheSameFrames := by
  intro m cx a b _
  have hsplit := delivered_readFrames_split m cx a b
  refine ⟨fun f1 c1 f2 c2 h1 h2 => ?join, fun fs c3 h => ?part⟩
  case join =>
    rw [h1, thenRead, h2] at hsplit
    exact delivered_eq_ok hsplit
  case part =>
    rw [h] at hsplit
    obtain ⟨cx', hboth⟩ := delivered_eq_ok hsplit.symm
    obtain ⟨f1, c1, h1, hrest⟩ := thenRead_eq_ok hboth
    obtain ⟨f2, h2, hfs⟩ := prepend_eq_ok hrest
    exact ⟨f1, c1, f2, cx', h1, h2, hfs⟩

end Sys2Proof.Machine

/-! PROOFS. Opening, rewinding and closing a stream: the context that DEC_OPEN and DEC_RESET leave (R131, R138), the
closed context of DEC_CLOSE (R140), and that reads change nothing DEC_RESET does not restore (R139). -/

namespace Sys2Proof.Machine

/-! ### A context at the start of its stream (R131, R138) -/

section Rewind

variable {m m' : List Host.Cell} {cx cx' : Ctx} {fs : List Frame}

/-- R138: what a rewound context holds whatever its codec; its key, cursor, accumulators and run are the codec's. -/
theorem Ctx.rewind_frame (cx : Ctx) (m : List Host.Cell) :
    cx.rewind m = { cx with
      unit := 0, pos := 0, remaining := cx.total, ovfLen := 0, ovfOff := 0, ovf := List.replicate 8 Frame.zero,
      st := stateFor cx.total .idle, stale := false, key := (cx.rewind m).key, cursor := (cx.rewind m).cursor,
      acc := (cx.rewind m).acc, runType := (cx.rewind m).runType, runLeft := (cx.rewind m).runLeft } := by
  unfold Ctx.rewind
  split <;> rfl

@[simp] theorem Ctx.rewind_base : (cx.rewind m).base = cx.base := by rw [Ctx.rewind_frame]
@[simp] theorem Ctx.rewind_len : (cx.rewind m).len = cx.len := by rw [Ctx.rewind_frame]
@[simp] theorem Ctx.rewind_frames : (cx.rewind m).frames = cx.frames := by rw [Ctx.rewind_frame]
@[simp] theorem Ctx.rewind_rate : (cx.rewind m).rate = cx.rate := by rw [Ctx.rewind_frame]
@[simp] theorem Ctx.rewind_stereo : (cx.rewind m).stereo = cx.stereo := by rw [Ctx.rewind_frame]
@[simp] theorem Ctx.rewind_lossy : (cx.rewind m).lossy = cx.lossy := by rw [Ctx.rewind_frame]
@[simp] theorem Ctx.rewind_n : (cx.rewind m).n = cx.n := by rw [Ctx.rewind_frame]
@[simp] theorem Ctx.rewind_total : (cx.rewind m).total = cx.total := by rw [Ctx.rewind_frame]
@[simp] theorem Ctx.rewind_remaining : (cx.rewind m).remaining = cx.total := by rw [Ctx.rewind_frame]
@[simp] theorem Ctx.rewind_pos : (cx.rewind m).pos = 0 := by rw [Ctx.rewind_frame]
@[simp] theorem Ctx.rewind_unit : (cx.rewind m).unit = 0 := by rw [Ctx.rewind_frame]
@[simp] theorem Ctx.rewind_ovfLen : (cx.rewind m).ovfLen = 0 := by rw [Ctx.rewind_frame]
@[simp] theorem Ctx.rewind_ovfOff : (cx.rewind m).ovfOff = 0 := by rw [Ctx.rewind_frame]
@[simp] theorem Ctx.rewind_ovf : (cx.rewind m).ovf = List.replicate 8 Frame.zero := by rw [Ctx.rewind_frame]
@[simp] theorem Ctx.rewind_stale : (cx.rewind m).stale = false := by rw [Ctx.rewind_frame]

/-- R131: an FR stream starts after its leading key, which is read; the fields of the AD codec stay. -/
theorem Ctx.rewind_of_lossy (h : cx.lossy = true) (m : List Host.Cell) :
    (cx.rewind m).key = readFrame m cx.stereo (cx.base.toNat + 10) ∧
      (cx.rewind m).cursor.toNat = 10 + 2 * channels cx.stereo ∧ (cx.rewind m).acc = cx.acc ∧
      (cx.rewind m).runType = cx.runType ∧ (cx.rewind m).runLeft = cx.runLeft := by
  rw [Ctx.rewind, if_pos h]
  refine ⟨rfl, ?_, rfl, rfl, rfl⟩
  cases cx.stereo <;> rfl

/-- R131: an AD stream starts after its preamble, with nothing accumulated and no run; the key of the FR codec stays. -/
theorem Ctx.rewind_of_lossless (h : cx.lossy = false) (m : List Host.Cell) :
    (cx.rewind m).cursor.toNat = 10 ∧ (cx.rewind m).acc = Frame.zero ∧ (cx.rewind m).runType = .small ∧
      (cx.rewind m).runLeft = 0 ∧ (cx.rewind m).key = cx.key := by
  rw [Ctx.rewind, if_neg (Bool.eq_false_iff.mp h)]
  exact ⟨rfl, rfl, rfl, rfl, rfl⟩

/-- R81, R138: the samples of the leading key. -/
theorem Ctx.rewind_key_get (h : cx.lossy = true) (m : List Host.Cell) {ch : Nat} (hch : ch < channels cx.stereo) :
    (cx.rewind m).key.get ch = readSample m (cx.base.toNat + 10 + 2 * ch) := by
  obtain ⟨hkey, -⟩ := Ctx.rewind_of_lossy h m
  rw [hkey, readFrame_get hch]

/-- R138: the start of a stream is the same from wherever it is rewound. -/
theorem Ctx.rewind_rewind (cx : Ctx) (m m' : List Host.Cell) : (cx.rewind m).rewind m' = cx.rewind m' := by
  cases h : cx.lossy <;> simp [Ctx.rewind, h]

/-- R138: a rewind reads the leading key of an FR stream alone. -/
theorem Ctx.rewind_congr
    (h : cx.lossy = true → readFrame m cx.stereo (cx.base.toNat + 10) = readFrame m' cx.stereo (cx.base.toNat + 10)) :
    cx.rewind m = cx.rewind m' := by
  cases hl : cx.lossy
  · simp [Ctx.rewind, hl]
  · simp [Ctx.rewind, hl, Config.preambleBytes, h hl]

/-! ### Reads change what a rewind restores (R139) -/

/-- R129: a decoded unit changes only what a rewind restores. -/
theorem decodeUnit_rewind (h : decodeUnit m cx = .ok (fs, cx')) (m' : List Host.Cell) :
    cx'.rewind m' = cx.rewind m' := by
  obtain ⟨cx1, h1, rfl⟩ := advanceUnit_ok h
  split at h1
  · rename_i hl
    rcases frDecodeUnit_ok h1 with ⟨-, -, rfl⟩ | ⟨-, -, -, rfl⟩ <;> simp [Ctx.rewind, hl]
  · rename_i hl
    rcases adDecodeUnit_ok h1 with ⟨b, t, -, -, -, -, hp⟩ | ⟨-, hp⟩ <;>
    · obtain ⟨-, -, rfl⟩ := adPayloadUnit_ok hp
      simp [Ctx.rewind, hl]

/-- R138: a rewind clears the scratch buffer. -/
theorem Ctx.withScratch_rewind (cx : Ctx) (ovf : List Frame) (len off : Nat) (m : List Host.Cell) :
    (cx.withScratch ovf len off).rewind m = cx.rewind m := rfl

/-- R134: so does the loop of DEC_READ. -/
theorem nextFrames_rewind {need : Nat} (h : nextFrames m cx need = .ok (fs, cx')) (m' : List Host.Cell) :
    cx'.rewind m' = cx.rewind m' := by
  induction need using Nat.strong_induction_on generalizing cx fs with
  | _ need ih =>
    rcases Nat.eq_zero_or_pos need with rfl | hpos
    · obtain ⟨-, rfl⟩ : [] = fs ∧ cx = cx' := by simpa using h
      rfl
    cases hu : decodeUnit m cx with
    | error e => simp [nextFrames_error hpos hu] at h
    | ok p =>
      obtain ⟨gs, cx1⟩ := p
      rw [← decodeUnit_rewind hu m']
      rcases Nat.lt_or_ge need gs.length with hlt | hle
      · rw [nextFrames_part hu hpos hlt] at h
        obtain ⟨-, rfl⟩ : gs.take need = fs ∧ cx1.stash gs need = cx' := by simpa using h
        exact Ctx.withScratch_rewind ..
      · have hunit := decodeUnit_length hu ▸ unitLen_pos cx
        have hless : need - gs.length < need := by omega
        rw [nextFrames_whole hu hle] at h
        obtain ⟨rest, hrest, -⟩ := prepend_eq_ok h
        exact ih _ hless hrest

/-- R139: so does a read. -/
theorem readFrames_rewind {k : Nat} (h : readFrames m cx k = .ok (fs, cx')) (m' : List Host.Cell) :
    cx'.rewind m' = cx.rewind m' := by
  rw [readFrames_eq] at h
  obtain ⟨rest, hrest, -⟩ := prepend_eq_ok h
  exact (nextFrames_rewind hrest m').trans (Ctx.withScratch_rewind ..)

/-- R138: a rewind sets the counters and the state anew. -/
theorem Ctx.account_rewind (cx : Ctx) (k : Nat) (m : List Host.Cell) : (cx.account k).rewind m = cx.rewind m := rfl

end Rewind

/-! ### DEC_RESET (R138) and DEC_CLOSE (R140) -/

section OpenContext

variable {c : Nat} {s : State} {cx : Ctx}

theorem openCtxCheck_passes (hcx : s.ctxs[c]? = some cx) (hopen : cx.st ≠ .closed) : openCtxCheck c s = .ok cx := by
  rw [openCtxCheck, hcx]
  exact if_neg hopen

/-- R138: the state after a DEC_RESET of an open context. -/
theorem exec_decReset_of_open (hcx : s.ctxs[c]? = some cx) (hopen : cx.st ≠ .closed) (hspace : cx.inSpace = true) :
    exec (.decReset c) s = .next { s with err := .ok, res0 := cx.total, ctxs := s.ctxs.set c (cx.rewind s.mem) } := by
  have hres : BitVec.ofNat 32 cx.total.toNat = cx.total := by simp
  rw [exec, execDecReset, openCtxCheck_passes hcx hopen]
  dsimp only
  rw [hspace, State.setRes0, hres]
  rfl

end OpenContext

/-- Settles O50: the check passes on an open context. -/
theorem decCloseClearsTheContext : Obligations.DecCloseClearsTheContext := by
  intro c s cx hcx hopen
  rw [exec, execDecClose, openCtxCheck_passes hcx hopen]
  rfl

/-- Settles O48: the context is rewound, by its codec. -/
theorem decResetRewinds : Obligations.DecResetRewinds := by
  intro c s cx ch hcx hopen hspace hch
  obtain rfl : ch = channels cx.stereo := hch
  obtain ⟨hc, -⟩ := List.getElem?_eq_some_iff.mp hcx
  refine ⟨_, cx.rewind s.mem, exec_decReset_of_open hcx hopen hspace, List.getElem?_set_self hc,
    fun j hj => List.getElem?_set_ne hj.symm, rfl, cx.rewind_st s.mem, Ctx.rewind_base, Ctx.rewind_len,
    Ctx.rewind_frames, Ctx.rewind_rate, Ctx.rewind_stereo, Ctx.rewind_lossy, Ctx.rewind_n, Ctx.rewind_total,
    Ctx.rewind_remaining, Ctx.rewind_pos, Ctx.rewind_unit, Ctx.rewind_ovfLen, Ctx.rewind_ovfOff, Ctx.rewind_ovf,
    Ctx.rewind_stale, fun hl => ?fr, fun hl => ?ad⟩
  case fr =>
    obtain ⟨-, hcursor, -⟩ := Ctx.rewind_of_lossy hl s.mem
    exact ⟨hcursor, fun k hk => Ctx.rewind_key_get hl s.mem hk⟩
  case ad =>
    obtain ⟨hcursor, hacc, htype, hleft, -⟩ := Ctx.rewind_of_lossless hl s.mem
    exact ⟨hcursor, hacc, htype, hleft⟩

/-! ### DEC_OPEN (R131) -/

/-- R131: the context DEC_OPEN rewinds: closed, but for what the preamble and the operands give it. -/
def preparedCtx (base len : Word) (p : Preamble) : Ctx :=
  { Ctx.closed with
    base := base, len := len, frames := p.frames, rate := p.rate, stereo := p.stereo, lossy := p.lossy,
    n := BitVec.ofNat 32 (preambleChunks p), total := BitVec.ofNat 32 (totalFrames p) }

theorem openedCtx_eq (m : List Host.Cell) (base len : Word) (p : Preamble) :
    openedCtx m base len p = (preparedCtx base len p).rewind m := rfl

section Open

variable {c : Nat} {s : State} {cx : Ctx} {p : Preamble}

/-- R131: the state after a DEC_OPEN whose checks pass. -/
theorem exec_decOpen_of_passes (h : decOpenCheck c s = .ok p) :
    exec (.decOpen c) s = .next { s with
      err := .ok, ctxs := s.ctxs.set c (openedCtx s.mem s.arg0 s.arg1 p), res0 := p.frames, res1 := p.rate,
      res2 := BitVec.ofNat 32 (openFlags p), res3 := BitVec.ofNat 32 (totalFrames p) } := by
  rw [exec, execDecOpen, h]
  simp only [State.setCtx, State.setRes0, State.setRes1, State.setRes2, State.setRes3, State.finish, BitVec.ofNat_toNat,
    BitVec.setWidth_eq]

/-- R131: the checks of DEC_OPEN pass when each of its conditions holds. -/
theorem decOpenCheck_passes (hcx : s.ctxs[c]? = some cx) (hst : cx.st = .closed)
    (hv : s.valid ⟨s.arg0.toNat, s.arg1.toNat⟩ = true) (hlen : 10 ≤ s.arg1.toNat)
    (hf : readNat s.mem s.arg0.toNat 4 ≠ 0)
    (hkey : readByte s.mem (s.arg0.toNat + 9) ≠ 0 →
      10 + 2 * (if readByte s.mem (s.arg0.toNat + 8) ≠ 0 then 2 else 1) ≤ s.arg1.toNat) :
    decOpenCheck c s = .ok (readPreamble s.mem s.arg0.toNat) := by
  rw [decOpenCheck_of_closed hcx hst, hv, if_neg (by decide), if_neg (not_lt.mpr hlen), if_neg hf,
    if_neg fun ⟨hl, hshort⟩ => (hkey hl).not_gt hshort]

/-- R80: the frame count of a preamble, whole. -/
theorem readPreamble_frames_toNat (m : List Host.Cell) (a : Nat) :
    (readPreamble m a).frames.toNat = readNat m a 4 := by
  have hlt := readNat_lt m a 4
  exact (BitVec.toNat_ofNat _ _).trans (Nat.mod_eq_of_lt (by simpa using hlt))

/-- R128: T is at most F. -/
theorem totalFrames_le (p : Preamble) : totalFrames p ≤ p.frames.toNat := by
  unfold totalFrames
  split
  · exact le_rfl
  · exact Nat.mul_div_le ..

/-- R131: the two flags of RES2. -/
theorem openFlags_word (p : Preamble) :
    BitVec.ofNat 32 (openFlags p) = (if p.stereo then 1#32 else 0#32) + (if p.lossy then 2#32 else 0#32) := by
  unfold openFlags
  cases p.stereo <;> cases p.lossy <;> rfl

/-- R86, R131: the chunks of an FR stream fit the field n. -/
theorem preparedCtx_n_toNat (base len : Word) (hl : p.lossy = true) :
    (preparedCtx base len p).n.toNat = (p.frames.toNat - 1 + 3) / 4 := by
  have hlt := p.frames.isLt
  have hchunks : preambleChunks p = (p.frames.toNat - 1 + 3) / 4 := if_pos hl
  rw [preparedCtx, hchunks, BitVec.toNat_ofNat]
  omega

/-- R131: an AD stream has no chunks to count. -/
theorem preparedCtx_n_of_lossless (base len : Word) (hl : p.lossy = false) : (preparedCtx base len p).n = 0 :=
  congrArg (BitVec.ofNat 32) (if_neg (Bool.eq_false_iff.mp hl))

theorem preparedCtx_total_toNat (base len : Word) (p : Preamble) :
    (preparedCtx base len p).total.toNat = totalFrames p :=
  (BitVec.toNat_ofNat _ _).trans (Nat.mod_eq_of_lt ((totalFrames_le p).trans_lt p.frames.isLt))

end Open

/-- Settles O39: the checks pass, and the context is the prepared one, rewound. -/
theorem decOpenOpensTheStream : Obligations.DecOpenOpensTheStream := by
  intro c s cx ch frames total stereo lossy hcx hst hv hlen hframes hstereo hlossy hch htotal hf hkey
  have hcheck := decOpenCheck_passes hcx hst hv hlen (hframes ▸ hf) fun hl => by
    simpa [hch, hstereo] using hkey (hlossy.trans (decide_eq_true hl))
  have hpf := (readPreamble_frames_toNat s.mem s.arg0.toNat).trans hframes.symm
  have hps : (readPreamble s.mem s.arg0.toNat).stereo = stereo := hstereo.symm
  have hpl : (readPreamble s.mem s.arg0.toNat).lossy = lossy := hlossy.symm
  have hpr : (readPreamble s.mem s.arg0.toNat).rate = BitVec.ofNat 32 (readNat s.mem (s.arg0.toNat + 4) 4) := rfl
  generalize readPreamble s.mem s.arg0.toNat = p at hcheck hpf hps hpl hpr
  subst hps hpl hpf
  obtain rfl : ch = channels p.stereo := hch
  obtain rfl : total = totalFrames p := htotal
  obtain ⟨hc, -⟩ := List.getElem?_eq_some_iff.mp hcx
  have htotal' := preparedCtx_total_toNat s.arg0 s.arg1 p
  refine ⟨_, (preparedCtx s.arg0 s.arg1 p).rewind s.mem, exec_decOpen_of_passes hcheck, List.getElem?_set_self hc,
    fun j hj => List.getElem?_set_ne hj.symm, ?registers, ?state, Ctx.rewind_base, Ctx.rewind_len,
    congrArg BitVec.toNat Ctx.rewind_frames, Ctx.rewind_rate.trans hpr, Ctx.rewind_stereo, Ctx.rewind_lossy,
    (congrArg BitVec.toNat Ctx.rewind_total).trans htotal', Ctx.rewind_remaining.trans Ctx.rewind_total.symm,
    Ctx.rewind_pos, Ctx.rewind_unit, Ctx.rewind_ovfLen, Ctx.rewind_ovfOff, Ctx.rewind_ovf, Ctx.rewind_stale,
    fun hl => ?fr, fun hl => ?ad⟩
  case registers => rw [openFlags_word, ← hpr, BitVec.ofNat_toNat, BitVec.setWidth_eq]
  case state =>
    have hzero : (preparedCtx s.arg0 s.arg1 p).total = 0 ↔ totalFrames p = 0 := by
      rw [← BitVec.toNat_inj, htotal']
      rfl
    rw [Ctx.rewind_st, stateFor, if_congr hzero rfl rfl]
  case fr =>
    have hl' : (preparedCtx s.arg0 s.arg1 p).lossy = true := hl
    obtain ⟨hk0, hcursor, hacc, htype, hleft⟩ := Ctx.rewind_of_lossy hl' s.mem
    refine ⟨hacc, htype, hleft, fun hs => ?_, ?_, hcursor, fun k hk => Ctx.rewind_key_get hl' s.mem hk⟩
    · rw [hk0]
      exact if_neg (Bool.eq_false_iff.mp hs)
    · rw [Ctx.rewind_n, preparedCtx_n_toNat _ _ hl]
  case ad =>
    have hl' : (preparedCtx s.arg0 s.arg1 p).lossy = false := hl
    obtain ⟨hcursor, hacc, htype, hleft, hk0⟩ := Ctx.rewind_of_lossless hl' s.mem
    exact ⟨hk0, Ctx.rewind_n.trans (preparedCtx_n_of_lossless _ _ hl), hcursor, hacc, htype, hleft⟩

/-! ### Open, read and reset (R139) -/

section OpenReadReset

variable {c : Nat} {s t u : State} {cx : Ctx}

theorem decOpenCheck_ne_error_ok (c : Nat) (s : State) : decOpenCheck c s ≠ .error .ok := by
  unfold decOpenCheck
  split
  · simp
  · dsimp only
    split_ifs <;> simp

theorem decReadCheck_ne_error_ok (c : Nat) (s : State) : decReadCheck c s ≠ .error .ok := by
  unfold decReadCheck
  split
  · simp
  · dsimp only
    split_ifs <;> simp

/-- R131: a DEC_OPEN that ends OK leaves the prepared context, rewound, and memory as it was. -/
theorem decOpen_leaves_rewound (h : exec (.decOpen c) s = .next t) (hok : t.err = .ok) :
    ∃ start : Ctx, t.ctxs[c]? = some (start.rewind t.mem) := by
  rcases execDecOpen_next h with ⟨e, he, rfl⟩ | ⟨p, hp, -⟩
  · obtain rfl : e = .ok := hok
    exact absurd he (decOpenCheck_ne_error_ok c s)
  · obtain ⟨⟨cx, hcx, -⟩, -⟩ := decOpenCheck_ok hp
    obtain ⟨hc, -⟩ := List.getElem?_eq_some_iff.mp hcx
    cases h.symm.trans (exec_decOpen_of_passes hp)
    exact ⟨preparedCtx s.arg0 s.arg1 p, List.getElem?_set_self hc⟩

/-- R77: a frame is read from its bytes alone. -/
theorem readFrame_congr {m m' : List Host.Cell} {stereo : Bool} {a : Nat}
    (h : ∀ i, i < 2 * channels stereo → readByte m (a + i) = readByte m' (a + i)) :
    readFrame m stereo a = readFrame m' stereo a := by
  have hmono (m : List Host.Cell) (hs : stereo = false) : (readFrame m stereo a).ch1 = 0 := by
    rw [hs]
    rfl
  refine Frame.ext_get (hmono m) (hmono m') fun ch hch => ?_
  have hlow := h (2 * ch) (by omega)
  have hhigh := h (2 * ch + 1) (by omega)
  rw [← Nat.add_assoc] at hhigh
  rw [readFrame_get hch, readFrame_get hch, readSample, readSample, readNat_two, readNat_two, hlow, hhigh]

/-- R131: the leading key of an FR stream lies in its stream region. -/
theorem Ctx.key_le_len (hspace : cx.inSpace = true) (hl : cx.lossy = true) :
    10 + 2 * channels cx.stereo ≤ cx.len.toNat := by
  simp only [Ctx.inSpace, hl, Bool.not_true, Bool.false_or, Bool.and_eq_true, decide_eq_true_eq] at hspace
  obtain ⟨-, hkey⟩ := hspace
  exact hkey

/-- R54, R138: a command leaves the start of an open stream as it was. -/
theorem exec_rewind {i : Instr} (hcmd : i.isCommand = true) (h : exec i s = .next t) (hcx : s.ctxs[c]? = some cx)
    (hopen : cx.st ≠ .closed) (hspace : cx.inSpace = true) : cx.rewind t.mem = cx.rewind s.mem := by
  refine Ctx.rewind_congr fun hl => readFrame_congr fun j hj => ?_
  have hlen := Ctx.key_le_len hspace hl
  exact commandsLeaveOpenStreamsAlone i s t c _ cx hcmd h hcx hopen (by omega) (by omega)

/-- R34: an OK read leaves its context open. -/
theorem Ctx.account_open (h : cx.st ≠ .closed) (k : Nat) : (cx.account k).st ≠ .closed := by
  simp only [Ctx.account, stateFor]
  split_ifs <;> simp [h]

/-- R134, R139: an OK read of an unchanged stream leaves its context open, and its start as it was. -/
theorem decRead_keeps_start (h : exec (.decRead c) s = .next u) (hok : u.err = .ok) (hcx : s.ctxs[c]? = some cx)
    (hst : cx.stale = false) :
    ∃ o, u.ctxs[c]? = some o ∧ o.st ≠ .closed ∧ o.rewind u.mem = cx.rewind s.mem := by
  rcases execDecRead_next h with ⟨e, he, rfl⟩ | ⟨cx₁, k, hcheck, hspace, hread⟩
  · obtain rfl : e = .ok := hok
    exact absurd he (decReadCheck_ne_error_ok c s)
  obtain ⟨hcx₁, hopen, -⟩ := decReadCheck_ok hcheck
  obtain rfl : cx₁ = cx := Option.some.inj (hcx₁.symm.trans hcx)
  have hstart := exec_rewind rfl h hcx hopen hspace
  obtain ⟨hc, -⟩ := List.getElem?_eq_some_iff.mp hcx
  rcases hread with ⟨hst', -⟩ | ⟨-, e, he, rfl⟩ | ⟨-, fs, cx', hfs, rfl⟩
  · exact absurd (hst.symm.trans hst') (by decide)
  · obtain rfl : e = .ok := hok
    exact absurd (readFrames_error he) (by decide)
  · obtain ⟨hst', -⟩ := readFrames_sameStream hfs
    exact ⟨cx'.account k, List.getElem?_set_self hc, Ctx.account_open (hst' ▸ hopen) k,
      (Ctx.account_rewind cx' k _).trans ((readFrames_rewind hfs _).trans hstart)⟩

/-- R138: what DEC_RESET leaves of an open context. -/
theorem decReset_leaves_rewound (h : exec (.decReset c) s = .next t) (hcx : s.ctxs[c]? = some cx)
    (hopen : cx.st ≠ .closed) : t.ctxs[c]? = some (cx.rewind s.mem) := by
  have hcheck := openCtxCheck_passes hcx hopen
  obtain ⟨hc, -⟩ := List.getElem?_eq_some_iff.mp hcx
  rcases execDecReset_next h with ⟨e, he, rfl⟩ | ⟨cx₁, hcx₁, -, rfl⟩
  · simp [hcheck] at he
  · obtain rfl : cx = cx₁ := by simpa [hcheck] using hcx₁
    exact List.getElem?_set_self hc

end OpenReadReset

/-- Settles O49: the opened context is a rewound one, and the read leaves its start as it was. -/
theorem resetRestoresTheOpenedContext : Obligations.ResetRestoresTheOpenedContext := by
  intro c s t u v a b n hopen hok hread hok' hreset
  obtain ⟨start, ht⟩ := decOpen_leaves_rewound hopen hok
  obtain ⟨o, hu, ho, hstart⟩ := decRead_keeps_start (cx := start.rewind t.mem) hread hok' ht Ctx.rewind_stale
  rw [decReset_leaves_rewound hreset hu ho, hstart, ht]
  exact congrArg some (start.rewind_rewind t.mem t.mem)

end Sys2Proof.Machine

/-! PROOFS. DEC_READ: the frames a read delivers (R132, R134), and the errors of its first unit (R106, R122, R124) and
of the read (R135, R152). -/

namespace Sys2Proof.Machine

section Read

variable {c k : Nat} {s : State} {cx cx' : Ctx} {fs : List Frame} {e : ErrCode}

/-! ### A read whose checks pass (R134) -/

/-- R134: the checks of DEC_READ pass when each of its conditions holds. -/
theorem decReadCheck_passes (hcx : s.ctxs[c]? = some cx) (hopen : cx.st ≠ .closed) (hfault : cx.st ≠ .faulted)
    (hk : k = min s.arg2.toNat cx.remaining.toNat) (hcap : 2 * channels cx.stereo * s.arg2.toNat ≤ s.arg1.toNat)
    (hv : s.valid ⟨s.arg0.toNat, 2 * channels cx.stereo * k⟩ = true)
    (ho : s.overlapsOpen ⟨s.arg0.toNat, 2 * channels cx.stereo * k⟩ = false) : decReadCheck c s = .ok (cx, k) := by
  rw [decReadCheck_of_open (ch := channels cx.stereo) hcx hopen hfault rfl hk, if_neg (not_lt.mpr hcap), hv, ho]
  rfl

/-- R134: the state after a read whose units decode. -/
theorem exec_decRead_of_ok (hcheck : decReadCheck c s = .ok (cx, k)) (hspace : cx.inSpace = true)
    (hst : cx.stale = false) (hread : readFrames s.mem cx k = .ok (fs, cx')) :
    exec (.decRead c) s = .next { s with
      err := .ok, res0 := BitVec.ofNat 32 k, reading := none, ctxs := s.ctxs.set c (cx'.account k),
      mem := writeBytes s.mem s.arg0.toNat (pcmBytes cx.stereo fs) } := by
  rw [exec, execDecRead, hcheck]
  dsimp only
  rw [hspace, hst, hread]
  simp only [Bool.not_true, Bool.false_eq_true, if_false, State.endRead, State.store, State.setCtx, State.setReading,
    State.setRes0, State.finish]

/-- R135: the state after a read that meets a stream error. -/
theorem exec_decRead_of_streamError (hcheck : decReadCheck c s = .ok (cx, k)) (hspace : cx.inSpace = true)
    (hst : cx.stale = false) (hread : readFrames s.mem cx k = .error e) :
    exec (.decRead c) s = .next (s.failRead c cx s.arg0.toNat k e) := by
  rw [exec, execDecRead, hcheck]
  dsimp only
  rw [hspace, hst, hread]
  rfl

/-! ### Frames delivered (R132, R134) -/

/-- R134: a read delivers the frames asked for. -/
theorem readFrames_length {m : List Host.Cell} (hscratch : cx.scratchOk = true)
    (h : readFrames m cx k = .ok (fs, cx')) : fs.length = k := by
  obtain ⟨rest, rfl, hrest⟩ := readFrames_ok h
  have hloop : rest.length = k - drainCount cx k := decodeFrames_length _ _ le_rfl hrest
  have hdrain : drainCount cx k ≤ k := Nat.min_le_left _ _
  rw [List.length_append, drained_length hscratch, hloop]
  omega

/-- R134: the frames left after `k`. -/
theorem toNat_sub_ofNat_of_le {w : Word} (h : k ≤ w.toNat) : (w - BitVec.ofNat 32 k).toNat = w.toNat - k := by
  have hlt := w.isLt
  rw [BitVec.toNat_sub, BitVec.toNat_ofNat]
  omega

theorem Ctx.account_st_zero (cx : Ctx) : (cx.account 0).st = cx.st := rfl

/-- R34: the state after a read that delivers frames. -/
theorem Ctx.account_st_pos (cx : Ctx) (hk : 0 < k) :
    (cx.account k).st = if (cx.account k).remaining = 0 then .exhausted else .reading := if_neg hk.ne'

/-! ### The errors of the first unit (R106, R122, R124) -/

section FirstUnit

variable {m : List Host.Cell}

/-- R134, R135: a read that scratch cannot serve ends with the error of its first unit. -/
theorem readFrames_of_unit_error (hk : cx.held < k) (h : decodeUnit m cx = .error e) :
    readFrames m cx k = .error e := by
  have hunit : decodeUnit m (cx.skip cx.held) = .error e :=
    (decodeUnit_withScratch cx.ovf cx.ovfLen (cx.ovfOff + cx.held)).trans (by rw [h]; rfl)
  have hmin : min k cx.held = cx.held := Nat.min_eq_right (le_of_lt hk)
  rw [readFrames_eq, hmin, nextFrames_error (Nat.sub_pos_of_lt hk) hunit]
  rfl

/-- R106: an FR chunk that reaches past the stream region. -/
theorem decodeUnit_fr_truncated (hl : cx.lossy = true) (hn : cx.unit.toNat < cx.n.toNat)
    (hlen : cx.len.toNat < cx.cursor.toNat + 5 * channels cx.stereo) : decodeUnit m cx = .error .truncated := by
  have hchunk : ¬ cx.n ≤ cx.unit := by
    rw [BitVec.le_def]
    omega
  rw [decodeUnit, if_pos hl, frDecodeUnit, if_neg hchunk, if_pos hlen]
  rfl

/-- R122, R124: a run header that lies past the stream region. -/
theorem decodeUnit_ad_noHeader (hl : cx.lossy = false) (hrun : cx.runLeft = 0)
    (hlen : cx.len.toNat < cx.cursor.toNat + 1) : decodeUnit m cx = .error .truncated := by
  rw [decodeUnit, if_neg (Bool.eq_false_iff.mp hl), adDecodeUnit, if_pos hrun, fetchRunHeader, if_pos hlen]
  rfl

/-- R88: the type of a run header is its two high bits. -/
theorem headerTypeField_eq (b : Byte) : headerTypeField b = b.toNat / 64 := by
  have hlt := b.isLt
  unfold headerTypeField bitField
  omega

/-- R122: a unit that begins a run is that of the header at the cursor. -/
theorem decodeUnit_ad_header (hl : cx.lossy = false) (hrun : cx.runLeft = 0)
    (hlen : cx.cursor.toNat + 1 ≤ cx.len.toNat) :
    decodeUnit m cx = advanceUnit (adHeaderUnit m cx
      (AdType.ofCode ((readByte m (cx.base.toNat + cx.cursor.toNat)).toNat / 64))
      (headerExtraField (readByte m (cx.base.toNat + cx.cursor.toNat)))) := by
  rw [decodeUnit, if_neg (Bool.eq_false_iff.mp hl), adDecodeUnit, if_pos hrun, fetchRunHeader_eq hlen,
    ← headerTypeField_eq]

/-- R124: a chunk of a run begun that reaches past the stream region. -/
theorem decodeUnit_ad_truncated (hl : cx.lossy = false) (hrun : cx.runLeft ≠ 0)
    (hlen : cx.len.toNat < cx.cursor.toNat + cx.runType.width * channels cx.stereo) :
    decodeUnit m cx = .error .truncated := by
  rw [decodeUnit, if_neg (Bool.eq_false_iff.mp hl), adDecodeUnit, if_neg hrun, adPayloadUnit, if_pos hlen]
  rfl

/-- R89: the type a header's code stands for, and its payload bytes for each channel; 3 stands for none. -/
theorem AdType.ofCode_eq_some {h : Nat} (h4 : h < 4) (h3 : h ≠ 3) :
    ∃ t, AdType.ofCode h = some t ∧ (t = .full ↔ h = 2) ∧ t.width = if h = 0 then 8 else if h = 1 then 12 else 16 := by
  interval_cases h
  · exact ⟨.small, rfl, by decide, rfl⟩
  · exact ⟨.medium, rfl, by decide, rfl⟩
  · exact ⟨.full, rfl, by decide, rfl⟩
  · exact absurd rfl h3

/-- R89, R122: a header of the reserved type, or of a run that heads the stream and is not Full. -/
theorem adHeaderUnit_ofCode_malformed {h : Nat} (h4 : h < 4) (hbad : h = 3 ∨ (cx.unit = 0 ∧ h ≠ 2)) (extra : Nat) :
    adHeaderUnit m cx (AdType.ofCode h) extra = .error .malformed := by
  by_cases h3 : h = 3
  · rw [h3]
    rfl
  · obtain ⟨t, ht, hfull, -⟩ := AdType.ofCode_eq_some h4 h3
    obtain ⟨h0, h2⟩ := hbad.resolve_left h3
    rw [ht, adHeaderUnit_malformed h0 (mt hfull.mp h2)]

/-- R124: a header whose first payload reaches past the stream region. -/
theorem adHeaderUnit_ofCode_truncated {h : Nat} (h4 : h < 4) (h3 : h ≠ 3) (hfirst : cx.unit = 0 → h = 2)
    (hlen : cx.len.toNat < cx.cursor.toNat + 1 +
      (if h = 0 then 8 else if h = 1 then 12 else 16) * channels cx.stereo) (extra : Nat) :
    adHeaderUnit m cx (AdType.ofCode h) extra = .error .truncated := by
  obtain ⟨t, ht, hfull, hwidth⟩ := AdType.ofCode_eq_some h4 h3
  rw [ht]
  exact adHeaderUnit_truncated (fun h0 => hfull.mpr (hfirst h0)) (by rwa [hwidth])

end FirstUnit

end Read

/-- Settles O41: the checks pass, the frames are stored in PCM layout, and the context's counters advance. -/
theorem decReadDeliversFrames : Obligations.DecReadDeliversFrames := by
  intro c s cx cx' ch k fs hcx hopen hfault hst hspace hscratch hch hk hcap hv ho hread
  obtain rfl : ch = channels cx.stereo := hch
  obtain ⟨hc, -⟩ := List.getElem?_eq_some_iff.mp hcx
  have hlen := readFrames_length hscratch hread
  have hexec := exec_decRead_of_ok (decReadCheck_passes hcx hopen hfault hk hcap hv ho) hspace hst hread
  obtain ⟨hst', -, -, -, -, -, -, -, hremaining, hpos, -, -⟩ := readFrames_sameStream hread
  refine ⟨_, cx'.account k, hexec, hlen, List.getElem?_set_self hc, fun j hj => List.getElem?_set_ne hj.symm, rfl,
    fun q a f _ ha hf => readSample_writeBytes_holdsAt (pcmBytes_holdsAt_sample ha hf) s.mem _, fun a ha => ?frame, rfl,
    ?remaining, congrArg (· + BitVec.ofNat 32 k) hpos, ?unmoved, Ctx.account_st_pos cx'⟩
  case unmoved =>
    rintro rfl
    exact (Ctx.account_st_zero cx').trans hst'
  case frame => exact readByte_writeBytes_outside _ s.mem _ a (by rwa [pcmBytes_length, hlen])
  case remaining =>
    rw [← hremaining] at hk ⊢
    exact toNat_sub_ofNat_of_le (by omega)

/-- Settles O42: the first unit raises its error, if one is not given, and the read fails with it. -/
theorem decReadErrorFaultsTheContext : Obligations.DecReadErrorFaultsTheContext := by
  intro c s cx ch k h w e hcx hopen hfault hst hspace hch hk hh hw hcap hv ho hcase
  obtain rfl : ch = channels cx.stereo := hch
  obtain ⟨hc, -⟩ := List.getElem?_eq_some_iff.mp hcx
  have h4 : h < 4 := by
    have hlt := (readByte s.mem (cx.base.toNat + cx.cursor.toNat)).isLt
    omega
  have hread : readFrames s.mem cx k = .error e := by
    refine hcase.elim id fun ⟨hheld, hunit⟩ => readFrames_of_unit_error hheld ?_
    rcases hunit with ⟨hl, hn, hlen, rfl⟩ | ⟨hl, hrun, hlen, rfl⟩ | ⟨hl, hrun, hlen, hbad, rfl⟩ |
      ⟨hl, hrun, hlen, h3, hfirst, hshort, rfl⟩ | ⟨hl, hrun, hshort, rfl⟩
    · exact decodeUnit_fr_truncated hl hn hlen
    · exact decodeUnit_ad_noHeader hl hrun hlen
    · rw [decodeUnit_ad_header hl hrun hlen, ← hh, adHeaderUnit_ofCode_malformed h4 hbad]
      rfl
    · rw [hw] at hshort
      rw [decodeUnit_ad_header hl hrun hlen, ← hh,
        adHeaderUnit_ofCode_truncated h4 h3 hfirst hshort]
      rfl
    · refine decodeUnit_ad_truncated hl hrun ?_
      rcases hshort with ⟨ht, hlen⟩ | ⟨ht, hlen⟩ | ⟨ht, hlen⟩ <;> rwa [ht]
  have hexec := exec_decRead_of_streamError (decReadCheck_passes hcx hopen hfault hk hcap hv ho) hspace hst hread
  exact ⟨readFrames_error hread, _, { cx.scramble s.freeTick with st := .faulted }, hexec, List.getElem?_set_self hc,
    fun j hj => List.getElem?_set_ne hj.symm, rfl,
    fun a ha => failRead_changesOnly s c cx s.arg0.toNat k e a ha, rfl, rfl, rfl, rfl, rfl, rfl, rfl, rfl, rfl⟩

end Sys2Proof.Machine

/-! PROOFS. The container and control commands: NOP (R143), the fields of the preamble that HDR_WRITE writes (R80, R82)
and its completion (R142). -/

namespace Sys2Proof.Machine

/-! ### NOP (R143) -/

/-- Settles O17: NOP is the end of a command that raised nothing. -/
theorem nopOnlyClearsStatus : Obligations.NopOnlyClearsStatus := by
  intro s
  rw [exec, execNop, State.finish]

/-! ### Words and flags held in bytes (R12, R48) -/

section HeldFields

variable {bs : List Byte} {i : Nat}

/-- R12, R48: a word held in the bytes just written. -/
theorem readNat_writeBytes_holdsAt_word {w : Word} (h : HoldsAt bs i (leBytes 4 w.toNat)) (m : List Host.Cell) (a : Nat) :
    readNat (writeBytes m a bs) (a + i) 4 = w.toNat := by
  have hbytes := readBytes_writeBytes_holdsAt h m a
  rw [leBytes_length] at hbytes
  rw [readNat, hbytes, leNat_leBytes, Nat.mod_eq_of_lt (by simpa using w.isLt)]

/-- R82: the byte of a flag is 0 or 1. -/
theorem leBytes_flag (b : Bool) : leBytes 1 b.toNat = [if b then 1#8 else 0#8] := by
  cases b <;> rfl

/-- R12, R82: a flag held in the bytes just written. -/
theorem readByte_writeBytes_holdsAt_flag {b : Bool} (h : HoldsAt bs i (leBytes 1 b.toNat)) (m : List Host.Cell) (a : Nat) :
    readByte (writeBytes m a bs) (a + i) = if b then 1#8 else 0#8 := by
  rw [leBytes_flag] at h
  exact readByte_writeBytes_holdsAt h m a (j := 0) Nat.one_pos

end HeldFields

/-! ### The fields of a preamble (R80, R82) -/

section Preamble

variable (frames rate : Word) (stereo lossy : Bool)

theorem preambleOf_frames : HoldsAt (preambleOf frames rate stereo lossy) 0 (leBytes 4 frames.toNat) :=
  (((holdsAt_self _).append_right _).append_right _).append_right _

theorem preambleOf_rate : HoldsAt (preambleOf frames rate stereo lossy) 4 (leBytes 4 rate.toNat) :=
  (((holdsAt_self _).append_left _).append_right _).append_right _

theorem preambleOf_stereo : HoldsAt (preambleOf frames rate stereo lossy) 8 (leBytes 1 stereo.toNat) :=
  ((holdsAt_self _).append_left _).append_right _

theorem preambleOf_lossy : HoldsAt (preambleOf frames rate stereo lossy) 9 (leBytes 1 lossy.toNat) :=
  (holdsAt_self _).append_left _

end Preamble

/-! ### HDR_WRITE completes (R142) -/

/-- R142: the checks of HDR_WRITE pass when both of its conditions hold. -/
theorem hdrCheck_passes {s : State} (hv : s.valid (hdrRegion s) = true) (hopen : s.overlapsOpen (hdrRegion s) = false) :
    hdrCheck s = .ok () := by
  rw [hdrCheck, hv, hopen]
  rfl

/-- R142: the state after an HDR_WRITE whose checks pass. -/
theorem exec_hdrWrite_of_passes {stereo lossy : Bool} {s : State} (h : hdrCheck s = .ok ()) :
    exec (.hdrWrite stereo lossy) s = .next { s with
      err := .ok, res0 := 10, mem := writeBytes s.mem s.arg0.toNat (preambleOf s.arg1 s.arg2 stereo lossy) } := by
  rw [exec, execHdrWrite, h]
  rfl

/-- Settles O18: the checks pass, and each field of the preamble is read back at its offset. -/
theorem hdrWriteWritesThePreamble : Obligations.HdrWriteWritesThePreamble := by
  intro stereo lossy s hv hopen
  refine ⟨_, exec_hdrWrite_of_passes (hdrCheck_passes hv hopen), rfl, ?frames, ?rate, ?stereo, ?lossy, fun a ha => ?frame⟩
  case frames => exact readNat_writeBytes_holdsAt_word (preambleOf_frames ..) s.mem s.arg0.toNat
  case rate => exact readNat_writeBytes_holdsAt_word (preambleOf_rate ..) s.mem s.arg0.toNat
  case stereo => exact readByte_writeBytes_holdsAt_flag (preambleOf_stereo ..) s.mem s.arg0.toNat
  case lossy => exact readByte_writeBytes_holdsAt_flag (preambleOf_lossy ..) s.mem s.arg0.toNat
  case frame => exact readByte_writeBytes_outside _ s.mem _ a (by rwa [preambleOf_length])

end Sys2Proof.Machine

/-! PROOFS. How steps and commands end: no step of a state with the invariant stops (R148, R156, R167) but for a window
access that R32 refuses, the codes that each command's checks raise (R149), and that an error changes nothing but STATUS
(R151, R152). -/

namespace Sys2Proof.Machine

/-! ### Every host action has a next state, but for an access that R32 refuses (R148, R176) -/

section Progress

variable {s : State}

/-- R70, R148: a CMD write has a next state, whether its word is legal or not. -/
theorem runCommand_progress (hs : s.streamsInSpace) (w : Word) : ∃ t, runCommand w s = .next t := by
  cases hw : decodeWord w with
  | error e => exact ⟨_, runCommand_of_error hw s⟩
  | ok i =>
    rw [runCommand_of_ok hw]
    exact exec_progress (isCommand_of_decodeWord hw) hs

/-- R52, R148: so has a CMD write whose command another bus master disturbs. -/
theorem runDisturbed_progress (hs : s.streamsInSpace) (w : Word) (r : Region) : ∃ t, runDisturbed w r s = .next t := by
  cases hw : decodeWord w with
  | error e =>
    rw [runDisturbed, hw]
    exact runCommand_progress (streamsInSpace_disturb hs r) w
  | ok i =>
    obtain ⟨t, ht, -⟩ := runDisturbed_next hw hs r
    exact ⟨t, ht⟩

/-- R62, R148: so has a CMD write without cache maintenance, on either kind of platform. -/
theorem runUncleaned_progress (hs : s.streamsInSpace) (w : Word) (r : Region) : ∃ t, runUncleaned w r s = .next t := by
  unfold runUncleaned
  split
  · exact runCommand_progress hs w
  · exact runDisturbed_progress hs w r

/-- R32: an access of the host to the window that is not an aligned 32-bit one. -/
def HostAction.misaligned (a : HostAction) : Prop :=
  ∃ width off, (width ≠ 4 ∨ off.toNat % 4 ≠ 0) ∧ (a = .regRead width off ∨ ∃ v, a = .regWrite width off v)

/-- R32: an access is no aligned 32-bit one exactly when its width or its offset is wrong. -/
theorem not_windowAligned_iff {width : Nat} {off : Byte} :
    ¬ windowAligned width off = true ↔ width ≠ 4 ∨ off.toNat % 4 ≠ 0 := by
  rw [windowAligned_iff, not_and_or]

/-- R32, R148, R176: every action of the host or the platform has a next state, but for a misaligned window access. -/
theorem perform_progress (hs : s.streamsInSpace) (a : HostAction) :
    (∃ t, perform a s = .next t) ∨ (perform a s = .refused .windowAccess ∧ a.misaligned) := by
  cases a with
  | regRead width off =>
    rw [perform, hostRegRead]
    split
    · exact .inl ⟨_, rfl⟩
    · exact .inr ⟨rfl, width, off, not_windowAligned_iff.mp ‹_›, .inl rfl⟩
  | regWrite width off v =>
    rw [perform, hostRegWrite]
    split
    · left
      split
      · exact runCommand_progress hs v
      · exact ⟨_, rfl⟩
    · exact .inr ⟨rfl, width, off, not_windowAligned_iff.mp ‹_›, .inr ⟨v, rfl⟩⟩
  | memRead addr => exact .inl ⟨_, rfl⟩
  | memWrite addr v =>
    left
    rw [perform, hostMemWrite]
    split <;> exact ⟨_, rfl⟩
  | reset => exact .inl ⟨_, rfl⟩
  | resetDuring word =>
    left
    rw [perform, hostResetDuring]
    split <;> exact ⟨_, rfl⟩
  | busWriteDuring word addr count => exact .inl (runDisturbed_progress hs word _)
  | skipMaintenance word addr count => exact .inl (runUncleaned_progress hs word _)

/-- R162, R167: with no read in progress and no host action pending, a step changes nothing. -/
theorem step_of_idle (hr : s.reading = none) (hi : s.inbox = []) : step s = .next s := by
  simp [step, hr, hi]

end Progress

/-- Settles O54: the step leaves the state as it is, or takes a host action, which only R32 can refuse. -/
theorem noStepGetsStuck : Obligations.NoStepGetsStuck := by
  intro s hinv
  have hr := reading_of_inv hinv
  cases hi : s.inbox with
  | nil => exact .inl ⟨s, step_of_idle hr hi⟩
  | cons a rest =>
    have hspace : State.streamsInSpace { s with inbox := rest } := streamsInSpace_of_inv hinv
    rw [step_of_action hr hi]
    refine (perform_progress hspace a).imp_right fun ⟨hrefused, width, off, hbad, ha⟩ => ?_
    refine ⟨hrefused, width, off, rest, hbad, ha.imp (fun hread => ?_) fun ⟨v, hwrite⟩ => ⟨v, ?_⟩⟩
    · rw [hread]
    · rw [hwrite]

/-! ### The codes that the checks of a command raise (R69, R149) -/

/-- Every error of the checks is one of `codes`. -/
def RaisesOnly {α : Type} (codes : List ErrCode) (checks : Except ErrCode α) : Prop :=
  ∀ e, checks = .error e → e ∈ codes

section Codes

variable {α : Type} {codes : List ErrCode} {s : State}

@[simp] theorem raisesOnly_ok (a : α) : RaisesOnly codes (.ok a) := nofun

@[simp] theorem raisesOnly_error (e : ErrCode) : RaisesOnly codes (.error e : Except ErrCode α) ↔ e ∈ codes := by
  simp [RaisesOnly]

/-- R110: the codes of CVT_F32's checks. -/
theorem cvtCheck_raisesOnly : RaisesOnly [.region, .overlap] (cvtCheck s) := by
  unfold cvtCheck
  split_ifs <;> simp

/-- R142: the codes of HDR_WRITE's checks. -/
theorem hdrCheck_raisesOnly : RaisesOnly [.region, .overlap] (hdrCheck s) := by
  unfold hdrCheck
  split_ifs <;> simp

/-- R104: the codes of ENC_FR's checks. -/
theorem encFrCheck_raisesOnly (stereo : Bool) :
    RaisesOnly [.unsupported, .region, .overlap, .capacity] (encFrCheck stereo s) := by
  unfold encFrCheck
  split_ifs <;> simp

/-- R119: the codes of ENC_AD's checks. -/
theorem encAdCheck_raisesOnly (stereo : Bool) :
    RaisesOnly [.unsupported, .region, .overlap, .capacity] (encAdCheck stereo s) := by
  unfold encAdCheck
  split_ifs <;> simp

/-- R69, R131: the codes of DEC_OPEN's checks. -/
theorem decOpenCheck_raisesOnly (c : Nat) :
    RaisesOnly [.badCtx, .ctxState, .unsupported, .region, .truncated] (decOpenCheck c s) := by
  unfold decOpenCheck
  split
  · simp
  · dsimp only
    split_ifs <;> simp

/-- R69, R134: the codes of DEC_READ's checks. -/
theorem decReadCheck_raisesOnly (c : Nat) :
    RaisesOnly [.badCtx, .ctxState, .faulted, .region, .overlap, .capacity] (decReadCheck c s) := by
  unfold decReadCheck
  split
  · simp
  · dsimp only
    split_ifs <;> simp

/-- R69, R138, R140: the codes of the check that DEC_RESET and DEC_CLOSE share. -/
theorem openCtxCheck_raisesOnly (c : Nat) : RaisesOnly [.badCtx, .ctxState] (openCtxCheck c s) := by
  unfold openCtxCheck
  split
  · simp
  · split_ifs <;> simp

end Codes

/-! ### How a command ends (R149, R151, R152) -/

/-- R135, R149, R151: the three ends of the command `i`: one of its checks fails and STATUS alone changes, it ends OK,
or it is a DEC_READ that met a stream error. -/
def State.endsAs (i : Instr) (s t : State) : Prop :=
  (∃ e, mayEnd i e = true ∧ t = s.raise e) ∨ t.err = .ok ∨
  (∃ c, i = .decRead c ∧ (t.err = .truncated ∨ t.err = .malformed))

section Ends

variable {α : Type} {codes : List ErrCode} {checks : Except ErrCode α} {i : Instr} {s t : State} {c : Nat}

/-- A command that ends OK once its checks pass, and whose checks raise only codes of its own. -/
theorem endsAs_of_checked (hraise : RaisesOnly codes checks) (hcodes : ∀ e ∈ codes, mayEnd i e = true)
    (h : (∃ e, checks = .error e ∧ t = s.raise e) ∨ t.err = .ok) : s.endsAs i t :=
  h.imp (fun ⟨e, he, ht⟩ => ⟨e, hcodes e (hraise e he), ht⟩) .inl

theorem endsAs_of_ok (h : t.err = .ok) : s.endsAs i t := .inr (.inl h)

/-- R135: a read that meets a stream error ends with that error. -/
theorem endsAs_failRead {e : ErrCode} (he : e = .truncated ∨ e = .malformed) (cx : Ctx) (dst k : Nat) :
    s.endsAs (.decRead c) (s.failRead c cx dst k e) :=
  .inr (.inr ⟨c, rfl, by simpa using he⟩)

/-- R171: a read of a changed stream ends OK or with one of the two stream errors. -/
theorem endsAs_staleRead (cx : Ctx) (dst k left : Nat) :
    s.endsAs (.decRead c) (s.staleRead c cx dst k left) := by
  rcases staleRead_cases s c cx dst k left with h | h | h <;> rw [h]
  · exact endsAs_of_ok (State.endRead_err ..)
  · exact endsAs_failRead (.inl rfl) cx dst k
  · exact endsAs_failRead (.inr rfl) cx dst k

/-- R134, R135: DEC_READ is the one command with errors beyond its checks. -/
theorem execDecRead_endsAs (h : execDecRead c s = .next t) : s.endsAs (.decRead c) t := by
  rcases execDecRead_next h with hfail | ⟨cx, k, -, -, ⟨-, rfl⟩ | ⟨-, e, he, rfl⟩ | ⟨-, fs, cx', -, rfl⟩⟩
  · exact endsAs_of_checked (decReadCheck_raisesOnly c) (by simp [mayEnd]) (.inl hfail)
  · exact endsAs_staleRead cx _ k k
  · exact endsAs_failRead (readFrames_error he) cx _ k
  · exact endsAs_of_ok (State.endRead_err ..)

/-- R149, R151: every command ends in one of the three ways. -/
theorem exec_endsAs (hcmd : i.isCommand = true) (h : exec i s = .next t) : s.endsAs i t := by
  cases i with
  | nop => exact endsAs_of_ok (execNop_next h ▸ rfl)
  | cvtF32 =>
    exact endsAs_of_checked cvtCheck_raisesOnly (by simp [mayEnd])
      ((execCvtF32_next h).imp_right fun ⟨_, ht⟩ => congrArg State.err ht)
  | hdrWrite =>
    exact endsAs_of_checked hdrCheck_raisesOnly (by simp [mayEnd])
      ((execHdrWrite_next h).imp_right fun ⟨_, ht⟩ => congrArg State.err ht)
  | encFr stereo =>
    exact endsAs_of_checked (encFrCheck_raisesOnly stereo) (by simp [mayEnd])
      ((execEncFr_next h).imp_right fun ⟨_, ht⟩ => congrArg State.err ht)
  | encAd stereo =>
    exact endsAs_of_checked (encAdCheck_raisesOnly stereo) (by simp [mayEnd])
      ((execEncAd_next h).imp_right fun ⟨_, ht⟩ => congrArg State.err ht)
  | decOpen c =>
    exact endsAs_of_checked (decOpenCheck_raisesOnly c) (by simp [mayEnd])
      ((execDecOpen_next h).imp_right fun ⟨_, _, ht⟩ => congrArg State.err ht)
  | decRead c => exact execDecRead_endsAs h
  | decReset c =>
    exact endsAs_of_checked (openCtxCheck_raisesOnly c) (by simp [mayEnd])
      ((execDecReset_next h).imp_right fun ⟨_, _, _, ht⟩ => congrArg State.err ht)
  | decClose c =>
    exact endsAs_of_checked (openCtxCheck_raisesOnly c) (by simp [mayEnd])
      ((execDecClose_next h).imp_right fun ⟨_, _, ht⟩ => congrArg State.err ht)
  | adSmall | adMedium | adFull | adReserved => simp [Instr.isCommand, encode] at hcmd

/-- R149: every command may end OK. -/
theorem mayEnd_ok (hcmd : i.isCommand = true) : mayEnd i .ok = true := by
  cases i with
  | adReserved => simp [Instr.isCommand, encode] at hcmd
  | _ => rfl

end Ends

/-- Settles O55: of the three ends of a command, a failed check changes STATUS alone, and OK is no error. -/
theorem errorsArePrecise : Obligations.ErrorsArePrecise := by
  intro i s t hcmd h herr
  rcases exec_endsAs hcmd h with ⟨e, -, rfl⟩ | hok | hstream
  · exact .inl rfl
  · exact absurd hok herr
  · exact .inr hstream

/-- Settles O56: the code of each of the three ends is one that R149 gives the command. -/
theorem commandsEndWithTheirCodes : Obligations.CommandsEndWithTheirCodes := by
  intro i s t hcmd h
  rcases exec_endsAs hcmd h with ⟨e, hcode, rfl⟩ | hok | ⟨c, rfl, hstream⟩
  · exact hcode
  · rw [hok]
    exact mayEnd_ok hcmd
  · rcases hstream with herr | herr <;> rw [herr] <;> rfl

end Sys2Proof.Machine

/-! PROOFS. Reset and hazards: a reset while a command runs (R166), and a DEC_READ of a stream that the host has changed
(R171), whose position is that of the frames decoded so far (R137). -/

namespace Sys2Proof.Machine

/-! ### A reset while a command runs (R166) -/

/-- R166: what is reset is the block with free bytes in the command's destination region at most, and none if the word is
illegal. -/
theorem hostResetDuring_next (w : Word) (s : State) :
    ∃ u, hostResetDuring w s = .next u.blockReset ∧ u.ctxs = s.ctxs ∧
      (∀ e, decodeWord w = .error e → u.mem = s.mem) ∧
      (∀ i, decodeWord w = .ok i → s.changesOnly (destRegion i s) u) := by
  cases hw : decodeWord w with
  | error e => exact ⟨s, by rw [hostResetDuring, hw], rfl, fun _ _ => rfl, nofun⟩
  | ok i =>
    refine ⟨s.scramble (destRegion i s), by rw [hostResetDuring, hw], rfl, nofun, fun j hj => ?_⟩
    obtain rfl : i = j := Except.ok.inj hj
    exact scramble_changesOnly s _

/-- R24: ID depends on the number of contexts alone. -/
theorem readWindow_id_congr {s t : State} (h : t.numCtx = s.numCtx) : t.readWindow 0 = s.readWindow 0 :=
  congrArg (fun n => BitVec.ofNat 32 (0x46410001 + n * 0x100)) h

/-- Settles O14: the step resets the block after the free bytes, and a reset leaves memory and the number of contexts
alone. -/
theorem resetDuringACommand : Obligations.ResetDuringACommand := by
  intro s w rest hr hi
  obtain ⟨u, hu, hctxs, hillegal, hdest⟩ := hostResetDuring_next w { s with inbox := rest }
  have hnum : u.blockReset.numCtx = s.numCtx := (blockReset_numCtx u).trans (congrArg List.length hctxs)
  exact ⟨u.blockReset, (step_of_action hr hi).trans hu, hnum, readWindow_id_congr hnum, blockReset_ctxs_closed u,
    fun o ho => blockReset_readWindow u ho, hillegal, hdest⟩

/-! ### The frame that a context delivers next (R137) -/

/-- R127, R137: the position of a context whose next frame to deliver is frame `f`: its next unit starts after the
frames still held in scratch, which is drained or holds a chunk begun. -/
def Ctx.atFrame (cx : Ctx) (f : Nat) : Prop :=
  cx.ovfOff ≤ cx.ovfLen ∧ (cx.ovfLen = 0 ∨ (cx.ovfLen = cx.chunkLen ∧ 0 < cx.ovfOff)) ∧
    cx.unitStart = f + cx.held

section Position

variable {cx a b : Ctx} {f k : Nat}

/-- R37: a chunk fits scratch. -/
theorem Ctx.chunkLen_le (cx : Ctx) : cx.chunkLen ≤ Config.scratchFrames := by
  unfold Ctx.chunkLen
  split <;> decide

/-- R33, R36, R137: what the invariant asks of a position, with the frame it stands at. -/
theorem Ctx.positionOk_iff (cx : Ctx) :
    cx.positionOk = true ↔ cx.ovf.length = Config.scratchFrames ∧ cx.atFrame cx.pos.toNat ∧
      cx.runLeft ≤ Config.adRunMax ∧ cx.cursor.toNat ≤ cx.len.toNat := by
  have hfits := cx.chunkLen_le
  simp only [Ctx.positionOk, Ctx.scratchOk, Ctx.atFrame, Ctx.held, Bool.and_eq_true, Bool.or_eq_true, decide_eq_true_eq]
  constructor
  · rintro ⟨⟨⟨⟨⟨⟨hovf, -⟩, hoff⟩, hheld⟩, hstart⟩, hrun⟩, hcur⟩
    exact ⟨hovf, ⟨hoff, hheld, hstart⟩, hrun, hcur⟩
  · rintro ⟨hovf, ⟨hoff, hheld, hstart⟩, hrun, hcur⟩
    exact ⟨⟨⟨⟨⟨⟨hovf, by omega⟩, hoff⟩, hheld⟩, hstart⟩, hrun⟩, hcur⟩

/-- R137: the frame depends on the place alone. -/
theorem Ctx.atFrame_of_samePlace (h : a.samePlace b) (hb : b.atFrame f) : a.atFrame f := by
  obtain ⟨hl, hn, hu, hlen, hoff⟩ := h
  simpa only [Ctx.atFrame, Ctx.held, Ctx.chunkLen, Ctx.unitStart, hl, hn, hu, hlen, hoff] using hb

/-- R134: frames taken from scratch move the position by as many. -/
theorem Ctx.atFrame_skip (h : cx.atFrame f) (hk : k ≤ cx.held) : (cx.skip k).atFrame (f + k) := by
  obtain ⟨hoff, hheld, hstart⟩ := h
  have hstart' : (cx.skip k).unitStart = cx.unitStart := rfl
  have hchunk : (cx.skip k).chunkLen = cx.chunkLen := rfl
  simp only [Ctx.held] at hk hstart
  simp only [Ctx.atFrame, hstart', hchunk]
  simp only [Ctx.held, Ctx.skip]
  omega

/-- R86, R127, R128: up to its last frame a stream has a next unit, which starts where the one before ends. -/
theorem Ctx.unitStart_succ (hstream : cx.streamOk = true) (h : cx.unitStart < cx.total.toNat) :
    Ctx.unitStart { cx with unit := cx.unit + 1 } = cx.unitStart + unitLen cx := by
  have hframes := cx.frames.isLt
  have htotalLt := cx.total.isLt
  simp only [Ctx.streamOk, Bool.and_eq_true, decide_eq_true_eq] at hstream
  obtain ⟨⟨-, htotal⟩, hchunks⟩ := hstream
  unfold Ctx.unitStart at h ⊢
  unfold unitLen
  cases hl : cx.lossy with
  | true =>
    simp only [Ctx.totalOf, Ctx.chunksOf, hl, if_true, frChunks, ceilDiv, Config.frChunk] at htotal hchunks h ⊢
    have hunit : (cx.unit + 1).toNat = cx.unit.toNat + 1 := BitVec.toNat_add_of_lt (by simp; omega)
    simp only [hunit, BitVec.le_def]
    split <;> omega
  | false =>
    simp only [hl, Bool.false_eq_true, if_false, Config.adChunk] at h ⊢
    have hunit : (cx.unit + 1).toNat = cx.unit.toNat + 1 := BitVec.toNat_add_of_lt (by simp; omega)
    rw [hunit]
    omega

/-- R127: a unit that a request does not use up is a chunk: the trailing key has one frame. -/
theorem unitLen_eq_chunkLen (h : 1 < unitLen cx) : unitLen cx = cx.chunkLen := by
  unfold unitLen at h ⊢
  unfold Ctx.chunkLen
  split_ifs at h ⊢
  · exact absurd h (by decide)
  · rfl
  · rfl

/-- R134, R137: with scratch drained, `need` more frames are whole units, and then the part of a chunk. -/
theorem passUnits_atFrame (fuel need : Nat) (hfuel : need ≤ fuel) (hstream : cx.streamOk = true) (h : cx.atFrame f)
    (hdrained : 0 < need → cx.held = 0) (hend : f + need ≤ cx.total.toNat) :
    (passUnits fuel cx need).atFrame (f + need) := by
  induction fuel generalizing cx f need with
  | zero =>
    obtain rfl : need = 0 := Nat.le_zero.mp hfuel
    exact h
  | succ fuel ih =>
    rw [passUnits]
    split
    case isTrue h0 => simpa only [h0, Nat.add_zero] using h
    case isFalse h0 =>
      have hheld := hdrained (Nat.pos_of_ne_zero h0)
      obtain ⟨hoff, hscratch, hstart⟩ := h
      have hnext := Ctx.unitStart_succ hstream (by omega)
      have hpos := unitLen_pos cx
      split
      case isTrue hle =>
        have hunit : Ctx.atFrame { cx with unit := cx.unit + 1 } (f + unitLen cx) :=
          ⟨hoff, hscratch, hnext.trans (by rw [hstart]; exact Nat.add_right_comm ..)⟩
        have hrest := ih (cx := { cx with unit := cx.unit + 1 }) (need - unitLen cx) (by omega) hstream hunit
          (fun _ => hheld) (by dsimp only; omega)
        rwa [Nat.add_assoc, Nat.add_sub_cancel' hle] at hrest
      case isFalse hlt =>
        have hstart' : cx.unitStart + unitLen cx = f + need + (unitLen cx - need) := by omega
        exact ⟨(not_le.mp hlt).le, .inr ⟨unitLen_eq_chunkLen (by omega), Nat.pos_of_ne_zero h0⟩, hnext.trans hstart'⟩

/-- R134, R137: after a read of `k` frames the next frame is the one `k` further on. -/
theorem passFrames_atFrame (hstream : cx.streamOk = true) (h : cx.atFrame f) (hend : f + k ≤ cx.total.toNat) :
    (passFrames cx k).atFrame (f + k) := by
  have hcount : drainCount cx k = min k cx.held := rfl
  have hheld : (cx.skip (drainCount cx k)).held = cx.held - drainCount cx k := Nat.sub_add_eq ..
  have hpass := passUnits_atFrame (cx := cx.skip (drainCount cx k)) (f := f + drainCount cx k) _
    (k - drainCount cx k) le_rfl hstream (Ctx.atFrame_skip h (by omega)) (by omega)
    (by simp only [Ctx.skip]; omega)
  rwa [Nat.add_assoc, Nat.add_sub_cancel' (by omega)] at hpass

/-- R134: units passed change neither the codec nor the number of chunks. -/
theorem passUnits_shape (fuel need : Nat) (cx : Ctx) :
    (passUnits fuel cx need).lossy = cx.lossy ∧ (passUnits fuel cx need).n = cx.n := by
  induction fuel generalizing cx need with
  | zero => exact ⟨rfl, rfl⟩
  | succ fuel ih =>
    rw [passUnits]
    split
    · exact ⟨rfl, rfl⟩
    · split
      · exact ih _ _
      · exact ⟨rfl, rfl⟩

/-- R137: a read of a changed stream that ends OK leaves the place that its frames give. -/
theorem Ctx.staleAfter_samePlace (cx : Ctx) (left tick : Nat) :
    (cx.staleAfter left tick).samePlace (passFrames cx left) := by
  obtain ⟨hlossy, hn⟩ := passUnits_shape (left - drainCount cx left) (left - drainCount cx left)
    (cx.skip (drainCount cx left))
  exact ⟨hlossy.symm, hn.symm, rfl, rfl, rfl⟩

end Position

/-! ### A DEC_READ of a changed stream (R171) -/

section ChangedStream

variable {c k : Nat} {s : State} {cx : Ctx}

/-- R34: what the invariant asks of a context that can be read. -/
theorem Ctx.ok_of_readable (h : cx.ok = true) (hopen : cx.st ≠ .closed) (hfault : cx.st ≠ .faulted) :
    cx.streamOk = true ∧ cx.countersOk = true ∧ cx.positionOk = true := by
  simp only [Ctx.ok, hopen, hfault, if_false, decide_false, Bool.false_or, Bool.and_eq_true] at h
  obtain ⟨hstream, ⟨-, hcounters⟩, hposition⟩ := h
  exact ⟨hstream, hcounters, hposition⟩

/-- R137: an OK read of a changed stream leaves a position that the invariant allows, whatever the free values are. -/
theorem Ctx.staleAfter_account_positionOk (hok : cx.ok = true) (hopen : cx.st ≠ .closed) (hfault : cx.st ≠ .faulted)
    (hk : k ≤ cx.remaining.toNat) (tick : Nat) : ((cx.staleAfter k tick).account k).positionOk = true := by
  obtain ⟨hstream, hcounters, hposition⟩ := Ctx.ok_of_readable hok hopen hfault
  have hcounters : cx.remaining.toNat + cx.pos.toNat = cx.total.toNat := of_decide_eq_true hcounters
  have htotal := cx.total.isLt
  obtain ⟨-, hat, -, -⟩ := cx.positionOk_iff.mp hposition
  have hpos : ((cx.staleAfter k tick).account k).pos.toNat = cx.pos.toNat + k := by
    have hkNat : (BitVec.ofNat 32 k).toNat = k := Nat.mod_eq_of_lt (by omega)
    have hadd : (cx.pos + BitVec.ofNat 32 k).toNat = cx.pos.toNat + (BitVec.ofNat 32 k).toNat :=
      BitVec.toNat_add_of_lt (by omega)
    exact hadd.trans (congrArg _ hkNat)
  have hframe : ((cx.staleAfter k tick).account k).atFrame (cx.pos.toNat + k) :=
    Ctx.atFrame_of_samePlace (cx.staleAfter_samePlace k tick) (passFrames_atFrame hstream hat (by omega))
  refine (Ctx.positionOk_iff _).mpr ⟨?scratch, hpos ▸ hframe, ?run, cx.staleAfter_cursor_le k tick⟩
  case scratch => simp [Ctx.account, Ctx.scramble]
  case run => exact Nat.lt_succ_iff.mp (Nat.mod_lt _ (by decide))

/-- R34: only a stream error makes a context FAULTED. -/
theorem Ctx.account_st_ne_faulted (h : cx.st ≠ .faulted) (k : Nat) : (cx.account k).st ≠ .faulted := by
  simp only [Ctx.account, stateFor]
  split_ifs
  · exact h
  · exact nofun
  · exact nofun

/-- R171: the state after a read of a changed stream. -/
theorem exec_decRead_of_stale (hcheck : decReadCheck c s = .ok (cx, k)) (hspace : cx.inSpace = true)
    (hst : cx.stale = true) : exec (.decRead c) s = .next (s.staleRead c cx s.arg0.toNat k k) := by
  rw [exec, execDecRead, hcheck]
  dsimp only
  rw [hspace, hst]
  rfl

/-- R171: a read of a changed stream delivers free bytes, or fails with one of the two stream errors. -/
theorem staleRead_ok_or_fails (s : State) (c : Nat) (cx : Ctx) (dst k left : Nat) :
    s.staleRead c cx dst k left =
      (s.scramble (readRegion cx.stereo dst k)).endRead c k (cx.staleAfter left s.freeTick) ∨
    ∃ e, (e = .truncated ∨ e = .malformed) ∧ s.staleRead c cx dst k left = s.failRead c cx dst k e :=
  (staleRead_cases s c cx dst k left).imp_right fun h =>
    h.elim (fun h => ⟨_, .inl rfl, h⟩) fun h => ⟨_, .inr rfl, h⟩

/-- R134, R171: what the end of a read with free bytes changes. -/
theorem scramble_endRead_frame (s : State) (r : Region) (c k : Nat) (cx : Ctx) :
    (s.scramble r).endRead c k cx = { s with
      err := .ok, res0 := BitVec.ofNat 32 k, ctxs := s.ctxs.set c (cx.account k), mem := (s.scramble r).mem,
      reading := none, freeTick := s.freeTick + 1 } := by
  simp only [State.endRead, State.scramble, State.setCtx, State.setReading, State.setRes0, State.finish]

end ChangedStream

/-- Settles O47: the read ends OK or with a stream error, its frame is the same in both, and the position after an OK one
is that of the frames delivered. -/
theorem readOfAChangedStream : Obligations.ReadOfAChangedStream := by
  intro c s cx ch k hcx hopen hfault hst hspace hch hk hcap hv ho
  obtain rfl : ch = channels cx.stereo := hch
  obtain ⟨hc, -⟩ := List.getElem?_eq_some_iff.mp hcx
  have hle : k ≤ cx.remaining.toNat := hk ▸ Nat.min_le_right _ _
  have hexec := exec_decRead_of_stale (decReadCheck_passes hcx hopen hfault hk hcap hv ho) hspace hst
  have hframe := staleRead_changesOnly s c cx s.arg0.toNat k k
  rcases staleRead_ok_or_fails s c cx s.arg0.toNat k k with hend | ⟨e, he, hend⟩ <;> rw [hend] at hexec hframe
  · exact ⟨_, (cx.staleAfter k s.freeTick).account k, hexec, List.getElem?_set_self hc,
      fun j hj => List.getElem?_set_ne hj.symm, hframe,
      .inl ⟨rfl, rfl, toNat_sub_ofNat_of_le hle, Ctx.account_st_ne_faulted hfault k,
        fun hinv => Ctx.staleAfter_account_positionOk (ok_of_inv hinv hcx) hopen hfault hle s.freeTick⟩, hst,
      scramble_endRead_frame ..⟩
  · exact ⟨_, { cx.scramble s.freeTick with st := .faulted }, hexec, List.getElem?_set_self hc,
      fun j hj => List.getElem?_set_ne hj.symm, hframe, .inr ⟨he, rfl, rfl⟩, hst, rfl⟩

end Sys2Proof.Machine
